-- ==== Sys2Proof/Word.lean ====
section
/-! DEFINITION. The word types of the block and nothing else.

Widths are those of 10_state.md (R21 to R33) and 30_encoding.md (R90, R99 to R101). -/

namespace Sys2Proof

/-- One entry of SAMPLE, POLL, the checksum registers, a CMD or STATUS byte (R23, R24, R28, R29, R38). -/
abbrev Byte := BitVec 8

/-- A 16-bit field or result register (R26, R27, R30, R31). -/
abbrev Half := BitVec 16

/-- The 41 classified bits, BIT[0] leftmost (R25, R92). -/
abbrev Frame := BitVec 41

/-- A port-operation word (R100). -/
abbrev PopWord := BitVec 11

/-- A PHASE code (R99). -/
abbrev PhaseCode := BitVec 4

/-- A word of any of the block's formats, zero above the format's width: the longest row of the opcode table has
41 bits, 48 in whole bytes. -/
abbrev Word := BitVec 48

/-- A line level: true is high (R8, decision D21). -/
abbrev Level := Bool

end Sys2Proof
end

