-- ==== Sys2Proof/Config.lean ====
section
/-! DEFINITION. The wired constants of the block (00_scope.md R6) and what the spec leaves open: the free values and
the three timing parameters (R7, R73, 93_implementation_defined.md U4, U7, U8).

The opaque constants have no body: no proof can learn what they are, so a statement about them holds for every value. -/

namespace Sys2Proof.Config

/-- N_SAMPLES (R6): samples per reading. -/
def nSamples : Nat := 41

/-- TICK_US (R6): microseconds waited before each line read. -/
def tickUs : Byte := 2

/-- WAKE_MS (R6): milliseconds the line is held low. -/
def wakeMs : Byte := 20

/-- B_IDLE (R6, R160): most polls in P1. -/
def bIdle : Byte := 126

/-- B_ACK_START (R6, R162): most polls in P3. -/
def bAckStart : Byte := 26

/-- B_ACK_END (R6, R163): most polls in P4. -/
def bAckEnd : Byte := 51

/-- B_SYNC (R6, R171): most polls in P5A. -/
def bSync : Byte := 36

/-- B_DATA (R6, R172): most polls in P5B. -/
def bData : Byte := 51

/-- THRESH (R6, R180): a sample is a 1 when its count is greater than this. -/
def thresh : Byte := 5

/-- HUM_FIRST (R6): first sample index of the humidity field. -/
def humFirst : Nat := 1

/-- TMP_FIRST (R6): first sample index of the temperature field. -/
def tmpFirst : Nat := 17

/-- CHK_FIRST (R6): first sample index of the checksum field. -/
def chkFirst : Nat := 33

/-- MAG_MASK (R6): removes bit 15 of a 16-bit field. -/
def magMask : Half := 0x7FFF

/-- SIGN_BIT (R6): the bit number of the temperature's sign flag. -/
def signBit : Nat := 15

/-- SCALE (R6): raw units per unit of measurement. -/
def scale : Nat := 10

/-- FREE VALUE (R73, D15, U8): what a line read in input mode returns once the read script has run out.
DESIGN CHOICE, safe: log 4. -/
opaque lineAnswer : Nat → Level

/-- FREE VALUE (U4, D14): what a line read returns while LINE_OE = 1, "any value". Safe: log 5. -/
opaque drivenAnswer : Nat → Level

/-- OPEN PARAMETER T_JIT (R7, D13), in nanoseconds: how much longer than asked a wait may last. Log 17. -/
opaque tJit : Nat

/-- OPEN PARAMETER T_OVH (R7, D13), in nanoseconds: what a poll takes beyond its wait. Log 17. -/
opaque tOvh : Nat

/-- OPEN PARAMETER T_POST (R7, D18), in nanoseconds: what P6 to P9 take together. Log 17. -/
opaque tPost : Nat

/-- FREE VALUE (R145, R146, U7): the lateness of a wait, before it is brought below T_JIT. Log 17. -/
opaque waitLateness : Nat → Nat

/-- FREE VALUE (R241, U7): the length of a line read and of all else in a poll, before it is brought below T_OVH. Log 17. -/
opaque readLength : Nat → Nat

/-- FREE VALUE (R215): the time one of the four drive operations takes; the spec gives no figure. Log 17. -/
opaque driveLength : Nat → Nat

end Sys2Proof.Config
end

