-- ==== Sys2Proof/Syntax.lean ====
section
/-! DEFINITION. The instructions: one constructor per row of spec/opcode_table.json, and the format each row has.

The block fetches no instructions (20_memory.md R70). What the opcode table lists is every code and data word that something
in the block decodes: the host command, the phase codes, the port-operation words, the data formats of the decoder, the
STATUS byte and the outcome codes (30_encoding.md R90, R98 to R101). -/

namespace Sys2Proof

/-- The formats of R90 (FIELD16 in its two uses), and the two code sets that are not operations. -/
inductive WordFormat where
  | hostcmd
  | phase
  | pop
  | pulse
  | frame41
  | field16Hum
  | field16Temp
  | checksum8
  | hostreg
  | outcome
  deriving DecidableEq, Repr

/-- The width of a format in bits; every format has one fixed length (R90). -/
def WordFormat.width : WordFormat → Nat
  | .hostcmd => 8
  | .phase => 4
  | .pop => 11
  | .pulse => 8
  | .frame41 => 41
  | .field16Hum => 16
  | .field16Temp => 16
  | .checksum8 => 8
  | .hostreg => 8
  | .outcome => 3

/-- One constructor per row of the opcode table, in the table's order. -/
inductive Instr where
  /-- READ (R101, R131, R132): a CMD write with bit 0 = 1; `i` is bits 7:1, ignored. -/
  | read (i : BitVec 7)
  /-- NOCMD (R39, R101): a CMD write with bit 0 = 0; `i` is bits 7:1, ignored. -/
  | nocmd (i : BitVec 7)
  /-- IDLE, code 0 (R99). -/
  | idle
  /-- IDLE_WAIT, P1, code 1 (R160). -/
  | idleWait
  /-- WAKE, P2, code 2 (R161). -/
  | wake
  /-- ACK_START, P3, code 3 (R162). -/
  | ackStart
  /-- ACK_END, P4, code 4 (R163). -/
  | ackEnd
  /-- SYNC, P5A, code 5 (R171). -/
  | sync
  /-- MEASURE, P5B, code 6 (R172). -/
  | measure
  /-- CLASSIFY, P6, code 7 (R180). -/
  | classify
  /-- EXTRACT, P7, code 8 (R181). -/
  | extract
  /-- CONVERT, P8, code 9 (R182, R183). -/
  | convert
  /-- VERIFY, P9, code 10 (R190, R191). -/
  | verify
  /-- PHASE_RESERVED_11, code 11 (R103). -/
  | phaseReserved11
  /-- PHASE_RESERVED_12_15, codes 12 to 15 (R103); `r` is bits 1:0. -/
  | phaseReserved12to15 (r : BitVec 2)
  /-- SET_INPUT (R140); `n` is bits 7:0 of the word, as in the seven rows below. -/
  | setInput (n : Byte)
  /-- SET_OUTPUT (R141). -/
  | setOutput (n : Byte)
  /-- DRIVE_LOW (R142). -/
  | driveLow (n : Byte)
  /-- DRIVE_HIGH (R143). -/
  | driveHigh (n : Byte)
  /-- LINE_READ (R144). -/
  | lineRead (n : Byte)
  /-- WAIT_US n (R145). -/
  | waitUs (n : Byte)
  /-- WAIT_MS n (R146). -/
  | waitMs (n : Byte)
  /-- POP_RESERVED, operation 7 (R103). -/
  | popReserved (n : Byte)
  /-- PULSE (R91): a poll count `c`. -/
  | pulse (c : Byte)
  /-- FRAME41 (R92): the discarded bit `x`, humidity `h`, temperature `t`, checksum `c`. -/
  | frame41 (x : BitVec 1) (h t : Half) (c : Byte)
  /-- FIELD16 as humidity (R94): bit 15 `u`, bits 14:0 `v`. -/
  | field16Hum (u : BitVec 1) (v : BitVec 15)
  /-- FIELD16 as temperature (R95): the sign flag `s`, the magnitude `m`. -/
  | field16Temp (s : BitVec 1) (m : BitVec 15)
  /-- CHECKSUM8 (R96): the transmitted checksum `k`. -/
  | checksum8 (k : Byte)
  /-- STATUS, host register 1 (R40): bits 6:4 `o`, bit 2 `n`, bit 1 `d`, bit 0 `b`. -/
  | status (o : BitVec 3) (n d b : BitVec 1)
  /-- Success, code 0 (R98, R134). -/
  | success
  /-- BusHung, code 1 (R98, R201). -/
  | busHung
  /-- NotPresent, code 2 (R98, R202). -/
  | notPresent
  /-- AckTooLong, code 3 (R98, R203). -/
  | ackTooLong
  /-- SyncTimeout, code 4 (R98, R204). -/
  | syncTimeout
  /-- DataTimeout, code 5 (R98, R205). -/
  | dataTimeout
  /-- ChecksumMismatch, code 6 (R98, R206). -/
  | checksumMismatch
  /-- NONE, code 7 (R33, R98). -/
  | noOutcome
  deriving DecidableEq, Repr

/-- The format of an instruction's word. -/
def Instr.format : Instr → WordFormat
  | .read _ => .hostcmd
  | .nocmd _ => .hostcmd
  | .idle => .phase
  | .idleWait => .phase
  | .wake => .phase
  | .ackStart => .phase
  | .ackEnd => .phase
  | .sync => .phase
  | .measure => .phase
  | .classify => .phase
  | .extract => .phase
  | .convert => .phase
  | .verify => .phase
  | .phaseReserved11 => .phase
  | .phaseReserved12to15 _ => .phase
  | .setInput _ => .pop
  | .setOutput _ => .pop
  | .driveLow _ => .pop
  | .driveHigh _ => .pop
  | .lineRead _ => .pop
  | .waitUs _ => .pop
  | .waitMs _ => .pop
  | .popReserved _ => .pop
  | .pulse _ => .pulse
  | .frame41 _ _ _ _ => .frame41
  | .field16Hum _ _ => .field16Hum
  | .field16Temp _ _ => .field16Temp
  | .checksum8 _ => .checksum8
  | .status _ _ _ _ => .hostreg
  | .success => .outcome
  | .busHung => .outcome
  | .notPresent => .outcome
  | .ackTooLong => .outcome
  | .syncTimeout => .outcome
  | .dataTimeout => .outcome
  | .checksumMismatch => .outcome
  | .noOutcome => .outcome

/-- The row's mnemonic, as spec/opcode_table.json spells it. -/
def Instr.mnemonic : Instr → String
  | .read _ => "READ"
  | .nocmd _ => "NOCMD"
  | .idle => "IDLE"
  | .idleWait => "IDLE_WAIT"
  | .wake => "WAKE"
  | .ackStart => "ACK_START"
  | .ackEnd => "ACK_END"
  | .sync => "SYNC"
  | .measure => "MEASURE"
  | .classify => "CLASSIFY"
  | .extract => "EXTRACT"
  | .convert => "CONVERT"
  | .verify => "VERIFY"
  | .phaseReserved11 => "PHASE_RESERVED_11"
  | .phaseReserved12to15 _ => "PHASE_RESERVED_12_15"
  | .setInput _ => "SET_INPUT"
  | .setOutput _ => "SET_OUTPUT"
  | .driveLow _ => "DRIVE_LOW"
  | .driveHigh _ => "DRIVE_HIGH"
  | .lineRead _ => "LINE_READ"
  | .waitUs _ => "WAIT_US"
  | .waitMs _ => "WAIT_MS"
  | .popReserved _ => "POP_RESERVED"
  | .pulse _ => "PULSE"
  | .frame41 _ _ _ _ => "FRAME41"
  | .field16Hum _ _ => "FIELD16_HUM"
  | .field16Temp _ _ => "FIELD16_TEMP"
  | .checksum8 _ => "CHECKSUM8"
  | .status _ _ _ _ => "STATUS"
  | .success => "Success"
  | .busHung => "BusHung"
  | .notPresent => "NotPresent"
  | .ackTooLong => "AckTooLong"
  | .syncTimeout => "SyncTimeout"
  | .dataTimeout => "DataTimeout"
  | .checksumMismatch => "ChecksumMismatch"
  | .noOutcome => "NONE"

end Sys2Proof
end

