-- ==== Sys2Proof/Machine/State.lean ====
section
/-! DEFINITION. The state of the block as plain data, the reasons a step can stop, and the state after reset.

Registers: 10_state.md R20 to R37; port handshake: 41_primitives.md R148; reset values: 10_state.md R45. The fields after the
port handshake are the model's own: the outside world's part of a run (what it will do, what it has been given) and the place
inside a phase operation. -/

namespace Sys2Proof.Machine

/-- The four host registers, numbered 0 to 3 (R38). -/
inductive HostReg where
  | cmd
  | status
  | humX10
  | tempX10
  deriving DecidableEq, Repr

/-- Something from outside the sequencer that happens next (R10, R67, R148, R230, R231). Logs 1, 3, 18, 21. -/
inductive Event where
  /-- The sequencer or the collaborator in charge of the operation in flight moves. -/
  | run
  /-- A moment in which nothing moves: a port operation that is not done yet (R148), or the host waiting. -/
  | stall
  /-- The host writes a register; the value's low bits are the register's (R38, R65). -/
  | hostWrite (r : HostReg) (v : Half)
  /-- The host reads a register (R38). -/
  | hostRead (r : HostReg)
  /-- The reset input (R230, R231). -/
  | reset
  /-- TEST SEAM, of no agent of the spec: a word of the opcode table handed straight to the block (R12). DESIGN CHOICE, log 18. -/
  | inject (f : WordFormat) (w : Word)
  deriving DecidableEq, Repr

/-- Where inside a phase operation the sequencer stands, between two port operations: the lines of the pseudocode of R133,
R147, R160, R161. DEDUCED: the spec's PHASE, IDX, POLL do not say it. Log 2. -/
inductive Micro where
  /-- The phase operation has issued nothing yet. -/
  | enter
  /-- P1 has issued its SetInput(); the polling loop is next. -/
  | loop
  /-- P2 has issued DriveLow(). -/
  | latched
  /-- P2 has issued SetOutput(). -/
  | driven
  /-- P2 has issued WaitMs(20). -/
  | held
  /-- P2 has issued its SetInput(). -/
  | released
  /-- A poll has issued its WaitUs(2). -/
  | ticked
  /-- A poll has issued its LineRead(). -/
  | answered
  deriving DecidableEq, Repr

/-- The six error kinds (R200): exactly these and no catch-all. -/
inductive ProtocolError where
  | busHung
  | notPresent
  | ackTooLong
  | syncTimeout
  | dataTimeout
  | checksumMismatch
  deriving DecidableEq, Repr

/-- The Protocol Outcome (R33, R98): Success and the six errors; NONE is a register value, not an outcome. -/
inductive ProtocolOutcome where
  | success
  | error (e : ProtocolError)
  deriving DecidableEq, Repr

/-- Why a step stops. Every one is safe: the model stops where the spec gives no effect, and no run from reset made of the
agents' own events reaches one. -/
inductive Fault where
  /-- Raised by PHASE_RESERVED_11 and PHASE_RESERVED_12_15: a PHASE register that holds 11 to 15 (R103, U6: "with raw bits,
  fault"). Safe. -/
  | reservedPhase
  /-- Raised by POP_RESERVED: a port word with operation 7, which is not defined (R103, U6). Safe. -/
  | reservedPop
  /-- Raised by fetch: a POP word with op 0 to 4 and n not 0 (R100, R103, U6). Safe. -/
  | illFormed
  /-- Raised by fetch: a word at the port that is a WAIT_US of another n than 2 or a WAIT_MS of another n than 20 (R103, U6).
  Safe. -/
  | foreignWait
  /-- Raised by fetch: a word that is no word of its format (a STATUS byte with bit 3 or 7 set, R40; too many bits). Safe. -/
  | undecodable
  /-- Raised by MEASURE and PULSE: IDX above 40 used as a sample index, which "is never formed" (R61). Safe. -/
  | sampleIndex
  deriving DecidableEq, Repr

/-- Why there is no meaning. -/
inductive Refusal where
  /-- Raised by exec's arm for an instruction that has no meaning yet; no arm does. Safe. -/
  | notModelled (mnemonic : String)
  deriving DecidableEq, Repr

end Sys2Proof.Machine

namespace Sys2Proof.Machine

/-- The whole state. -/
structure State where
  /-- PHASE (R21), the block's program counter. -/
  phase : PhaseCode
  /-- IDX (R22), the index of the sample being acquired. -/
  idx : BitVec 6
  /-- POLL (R23). -/
  poll : Byte
  /-- SAMPLE[0..40] (R24), the only memory (R72): (index, count) cells, indices rising, no zero count. Log 8. -/
  sample : List Host.Cell
  /-- BIT[0..40] (R25), BIT[0] leftmost. -/
  bits : Frame
  /-- HUM_RAW (R26). -/
  humRaw : Half
  /-- TEMP_RAW (R27). -/
  tempRaw : Half
  /-- CHK_RX (R28). -/
  chkRx : Byte
  /-- CHK_CALC (R29). -/
  chkCalc : Byte
  /-- HUM_X10 (R30). -/
  humX10 : Half
  /-- TEMP_X10 (R31), two's complement. -/
  tempX10 : Half
  /-- TEMP_NEG (R32), the only flag. -/
  tempNeg : Bool
  /-- OUTCOME (R33), the code of R98; 7 is NONE. -/
  outcome : BitVec 3
  /-- BUSY (R34). -/
  busy : Bool
  /-- DONE (R35). -/
  done : Bool
  /-- LINE_OE (R36): true is output. -/
  lineOe : Bool
  /-- LINE_OUT (R37): true is high. -/
  lineOut : Level
  /-- pop_valid and pop_word (R148): the port operation in flight. -/
  popWord : Option PopWord
  /-- pop_rdata (R148): the last read answer (R70). -/
  popRdata : Level
  /-- Model's own (log 2): the place inside the phase operation. -/
  micro : Micro
  /-- Model's own (log 1): what happens next from outside, oldest first. -/
  inputs : List Event
  /-- Model's own (log 4): the read script (R12, R104), the answers the line will give in input mode. -/
  script : List Level
  /-- Model's own (log 7): what the last host read returned. -/
  hostData : Half
  /-- Model's own (log 7): the port trace (R11, R104), oldest first. -/
  trace : List PopWord
  /-- Model's own (log 7): the counter the free values of Config are applied to. -/
  draws : Nat
  /-- Model's own (log 17): ghost time in nanoseconds (R41, R244). -/
  clock : Nat
  deriving DecidableEq, Repr

/-- The state after reset (R45, R230). The values of popRdata and of the model's own fields are DESIGN CHOICE: logs 6, 7. -/
def State.reset : State where
  phase := 0
  idx := 0
  poll := 0
  sample := []
  bits := 0
  humRaw := 0
  tempRaw := 0
  chkRx := 0
  chkCalc := 0
  humX10 := 0
  tempX10 := 0
  tempNeg := false
  outcome := 7
  busy := false
  done := false
  lineOe := false
  lineOut := false
  popWord := none
  popRdata := false
  micro := .enter
  inputs := []
  script := []
  hostData := 0
  trace := []
  draws := 0
  clock := 0

end Sys2Proof.Machine
end

