-- ==== Sys2Proof/Machine/Memory.lean ====
section
/-! DEFINITION. The sample space (20_memory.md R60, R61, R72; 10_state.md R24): indices 0 to 40, one byte each, kept as a list
of (index, byte) cells in one canonical form. An unlisted index reads 0, the value of every entry after reset and after START
(R45, R131). -/

namespace Sys2Proof.Machine

/-- What an index with no cell reads as (R45, R131: all SAMPLE 0). -/
def Memory.unlisted : Byte := 0

/-- MemRead(i, 1) (R9, R72). -/
def Memory.read : List Host.Cell → Nat → Byte
  | [], _ => Memory.unlisted
  | (k, v) :: m, a => if k = a then v else Memory.read m a

/-- MemWrite(i, 1, v) (R9, R72): the cell of a set to v, and no cell where v is what an unlisted index reads as. -/
def Memory.write : List Host.Cell → Nat → Byte → List Host.Cell
  | [], a, v => if v = Memory.unlisted then [] else [(a, v)]
  | (k, x) :: m, a, v =>
    if a < k then (if v = Memory.unlisted then (k, x) :: m else (a, v) :: (k, x) :: m)
    else if a = k then (if v = Memory.unlisted then m else (a, v) :: m)
    else (k, x) :: Memory.write m a v

/-- The indices of the space (R60): 0 to 40. -/
def Memory.inSpace (a : Nat) : Bool := a < Config.nSamples

/-- Canonical from index lo on: indices at least lo and strictly rising, all of the space, no cell equal to an unlisted one. -/
def Memory.wfFrom : Nat → List Host.Cell → Bool
  | _, [] => true
  | lo, (k, v) :: m => lo ≤ k && Memory.inSpace k && v != Memory.unlisted && Memory.wfFrom (k + 1) m

/-- The canonical form. -/
def Memory.wf (m : List Host.Cell) : Bool := Memory.wfFrom 0 m

end Sys2Proof.Machine
end

