-- ==== Sys2Proof/Machine/Operands.lean ====
section
/-! DEFINITION. The operand forms: single bits of the frame, the fields assembled from them, the bytes of a 16-bit field, and
the value conversions (20_memory.md R62, R63; 30_encoding.md R91 to R95; 44_decode.md R180 to R183). -/

namespace Sys2Proof.Machine

/-- BIT[i] of a frame, index 0 leftmost (R25, R92); no bit at an index above 40. -/
def bitAt (f : Frame) (i : Nat) : Bool := f.getMsbD i

/-- The frame with BIT[i] set to b; unchanged for an index above 40. -/
def setBit (f : Frame) (i : Nat) (b : Bool) : Frame :=
  let m : Frame := if i < Config.nSamples then 1#41 <<< (Config.nSamples - 1 - i) else 0#41
  if b then f ||| m else f &&& ~~~m

/-- PULSE (R91, R180): a count above THRESH is a 1; unsigned and strict. -/
def classifyCount (c : Byte) : Bool := Config.thresh < c

/-- Classify()'s loop (R180): for i = 0..40, BIT[i] from SAMPLE[i]. -/
def classifyAll (m : List Host.Cell) (f : Frame) : Frame :=
  (List.range Config.nSamples).foldl (fun acc i => setBit acc i (classifyCount (Memory.read m i))) f

/-- Extract()'s loop (R93, R181): the or of BIT[first + j] << (w - 1 - j) for j = 0..w-1. -/
def assemble (f : Frame) (first w : Nat) : BitVec w :=
  (List.range w).foldl (fun acc j => acc ||| ((BitVec.ofBool (bitAt f (first + j))).setWidth w <<< (w - 1 - j))) 0#w

/-- HUM_RAW of a frame (R181). -/
def frameHum (f : Frame) : Half := assemble f Config.humFirst 16

/-- TEMP_RAW of a frame (R181). -/
def frameTemp (f : Frame) : Half := assemble f Config.tmpFirst 16

/-- CHK_RX of a frame (R181). -/
def frameChk (f : Frame) : Byte := assemble f Config.chkFirst 8

/-- FRAME41 from its parts (R92): the discarded bit, humidity, temperature, checksum. -/
def frameOf (x : BitVec 1) (h t : Half) (c : Byte) : Frame := x ++ h ++ t ++ c

/-- high_byte(v) = v[15:8] (R63). -/
def highByte (v : Half) : Byte := v.extractLsb' 8 8

/-- low_byte(v) = v[7:0] (R63). -/
def lowByte (v : Half) : Byte := v.extractLsb' 0 8

/-- Humidity conversion (R182): HUM_RAW & 0x7FFF. -/
def humValue (h : Half) : Half := h &&& Config.magMask

/-- Temperature conversion (R183): sign and magnitude to two's complement. -/
def tempValue (t : Half) : Half :=
  if t.getLsbD Config.signBit then BitVec.ofNat 16 (0x10000 - (t &&& Config.magMask).toNat) else t

end Sys2Proof.Machine
end

