-- ==== Sys2Proof/Machine/Flags.lean ====
section
/-! DEFINITION. The one flag (10_state.md R32), the checksum (45_checksum.md R190, R192), the outcome codes (30_encoding.md
R98) and the views the host has of the registers (10_state.md R38, R40; 40_command.md R130). -/

namespace Sys2Proof.Machine

/-- TEMP_NEG <- TEMP_RAW[15] (R32, R183). -/
def tempSign (t : Half) : Bool := t.getLsbD Config.signBit

/-- The unreduced sum of the four payload bytes (R190). -/
def byteSum (h t : Half) : Nat :=
  (highByte h).toNat + (lowByte h).toNat + (highByte t).toNat + (lowByte t).toNat

/-- CHK_CALC (R190): the sum mod 256. -/
def checksum (h t : Half) : Byte := BitVec.ofNat 8 (byteSum h t % 256)

/-- ChecksumOk(h, t, c) (R192). -/
def checksumOk (h t : Half) (c : Byte) : Bool := checksum h t == c

/-- The code of an error kind (R98, R201 to R206). -/
def ProtocolError.code : ProtocolError → BitVec 3
  | .busHung => 1
  | .notPresent => 2
  | .ackTooLong => 3
  | .syncTimeout => 4
  | .dataTimeout => 5
  | .checksumMismatch => 6

/-- The code of an outcome (R98). -/
def ProtocolOutcome.code : ProtocolOutcome → BitVec 3
  | .success => 0
  | .error e => e.code

/-- OUTCOME = NONE (R33, R98). -/
def outcomeNone : BitVec 3 := 7

/-- The gate of R38: DONE = 1 and OUTCOME = 0. -/
def State.gate (s : State) : Bool := s.done && s.outcome == ProtocolOutcome.success.code

/-- The STATUS byte (R40): 0, OUTCOME, 0, TEMP_NEG behind the gate, DONE, BUSY. -/
def State.statusByte (s : State) : Byte :=
  0#1 ++ s.outcome ++ 0#1 ++ BitVec.ofBool (s.gate && s.tempNeg) ++ BitVec.ofBool s.done ++ BitVec.ofBool s.busy

/-- What a host read of a register returns (R38, R40). -/
def State.hostValue (s : State) : HostReg → Half
  | .cmd => 0
  | .status => s.statusByte.setWidth 16
  | .humX10 => if s.gate then s.humX10 else 0
  | .tempX10 => if s.gate then s.tempX10 else 0

/-- The registers by number (R38). -/
def HostReg.number : HostReg → BitVec 2
  | .cmd => 0
  | .status => 1
  | .humX10 => 2
  | .tempX10 => 3

/-- A Reading (R106, R130, R185): exact rationals, tenths over ten. -/
structure Reading where
  humidity : Rat
  temperature : Rat
  deriving DecidableEq, Repr

/-- The Reading the result registers hold (R130, R185): HUM_X10 / 10, and sext(TEMP_X10) / 10. -/
def State.reading (s : State) : Reading where
  humidity := mkRat s.humX10.toNat Config.scale
  temperature := mkRat s.tempX10.toInt Config.scale

/-- The error kind a code stands for, if any (R98). -/
def errorOfCode (c : BitVec 3) : Option ProtocolError :=
  match c.toNat with
  | 1 => some .busHung
  | 2 => some .notPresent
  | 3 => some .ackTooLong
  | 4 => some .syncTimeout
  | 5 => some .dataTimeout
  | 6 => some .checksumMismatch
  | _ => none

/-- The Result of the last call (R130): none while no call has finished, an error kind alone, or the Reading. -/
def State.result (s : State) : Option (Except ProtocolError Reading) :=
  if s.done then
    match errorOfCode s.outcome with
    | some e => some (.error e)
    | none => if s.gate then some (.ok s.reading) else none
  else none

end Sys2Proof.Machine
end

