-- ==== Sys2Proof/Machine/Ops.lean ====
section
/-! DEFINITION. The shared operations: port operations issued and performed, the poll, going to a phase, START, the error
entry and the completion, host accesses, reset. Each follows one piece of pseudocode of the spec. -/

namespace Sys2Proof.Machine

/-! ### PHASE codes (R99) -/

/-- IDLE. -/
def Phase.idle : PhaseCode := 0
/-- P1, IDLE_WAIT. -/
def Phase.idleWait : PhaseCode := 1
/-- P2, WAKE. -/
def Phase.wake : PhaseCode := 2
/-- P3, ACK_START. -/
def Phase.ackStart : PhaseCode := 3
/-- P4, ACK_END. -/
def Phase.ackEnd : PhaseCode := 4
/-- P5A, SYNC. -/
def Phase.sync : PhaseCode := 5
/-- P5B, MEASURE. -/
def Phase.measure : PhaseCode := 6
/-- P6, CLASSIFY. -/
def Phase.classify : PhaseCode := 7
/-- P7, EXTRACT. -/
def Phase.extract : PhaseCode := 8
/-- P8, CONVERT. -/
def Phase.convert : PhaseCode := 9
/-- P9, VERIFY. -/
def Phase.verify : PhaseCode := 10

/-! ### The words the ADE issues (R100) -/

/-- SET_INPUT, 0x000. -/
def Pop.setInput : PopWord := 0x000
/-- SET_OUTPUT, 0x100. -/
def Pop.setOutput : PopWord := 0x100
/-- DRIVE_LOW, 0x200. -/
def Pop.driveLow : PopWord := 0x200
/-- LINE_READ, 0x400. -/
def Pop.lineRead : PopWord := 0x400
/-- WAIT_US 2, 0x502 (R145). -/
def Pop.tick : PopWord := 0x500 + Config.tickUs.setWidth 11
/-- WAIT_MS 20, 0x614 (R146). -/
def Pop.wakeHold : PopWord := 0x600 + Config.wakeMs.setWidth 11

/-! ### The sequencer's side of the port (R148) -/

/-- The ADE presents a port word (R148) and stands at the place m until it is done. -/
def State.issue (s : State) (w : PopWord) (m : Micro) : State :=
  { s with popWord := some w, trace := s.trace ++ [w], micro := m }

/-- PHASE <- p (R9): the sequencer moves to the start of phase p. -/
def State.goto (s : State) (p : PhaseCode) : State := { s with phase := p, micro := .enter }

/-! ### The poll (R147) -/

/-- What one stretch of PollUntil, from one port operation to the next, comes to. -/
inductive PollResult where
  /-- A port operation was issued. -/
  | waiting (s : State)
  /-- PollUntil returned (true, POLL). -/
  | matched (s : State)
  /-- PollUntil returned (false, N). -/
  | failed (s : State)
  deriving DecidableEq, Repr

/-- POLL <- POLL + 1; WaitUs(2) (R147): the tick comes first. -/
def State.tick (s : State) : State := { s with poll := s.poll + 1 }.issue Pop.tick .ticked

/-- PollUntil(level, N) (R147), from where the sequencer stands to the next port operation or the return. -/
def State.pollUntil (s : State) (level : Level) (bound : Byte) : PollResult :=
  match s.micro with
  | .ticked => .waiting (s.issue Pop.lineRead .answered)
  | .answered =>
    if s.popRdata = level then .matched s
    else if s.poll = bound then .failed s
    else .waiting s.tick
  | _ => .waiting { s with poll := 0 }.tick

/-! ### The end of a call -/

/-- raise K() (R207): the error entry, one atomic step. There is no saved context and no handler address; control goes to IDLE. -/
def State.raiseError (s : State) (k : ProtocolError) : State :=
  { s with
    outcome := k.code, humX10 := 0, tempX10 := 0, tempNeg := false,
    busy := false, done := true, phase := Phase.idle, micro := .enter }

/-- Complete() (R134), one atomic step. -/
def State.complete (s : State) : State :=
  { s with
    outcome := ProtocolOutcome.success.code, busy := false, done := true, phase := Phase.idle, micro := .enter }

/-- An end of call applied to a call that is running; "a call not running raises nothing" (R210). -/
def State.ifRunning (s : State) (endCall : State → State) : State := if s.busy then endCall s else s

/-- A polling phase: wait, go on when the level came, raise k when the bound was reached (R160, R162, R163, R171, R172). -/
def State.pollPhase (s : State) (level : Level) (bound : Byte) (k : ProtocolError)
    (onMatch : State → Host.Outcome State Fault Refusal) : Host.Outcome State Fault Refusal :=
  match s.pollUntil level bound with
  | .waiting t => .next t
  | .matched t => onMatch t
  | .failed t => .next (t.raiseError k)

/-! ### The decoder's registers (R180 to R183, R190) -/

/-- The three fields of a frame into their registers (R181). -/
def State.loadFields (s : State) (h t : Half) (c : Byte) : State :=
  { s with humRaw := h, tempRaw := t, chkRx := c }

/-- The humidity half of P8 on a raw value (R182). -/
def State.convertHum (s : State) (h : Half) : State := { s with humX10 := humValue h }

/-- The temperature half of P8 on a raw value (R183). -/
def State.convertTemp (s : State) (t : Half) : State :=
  { s with tempNeg := tempSign t, tempX10 := tempValue t }

/-- CHK_CALC from the raw registers (R190). -/
def State.computeChecksum (s : State) : State := { s with chkCalc := checksum s.humRaw s.tempRaw }

/-- Verify()'s comparison (R191): ChecksumMismatch, or Complete() (R134). -/
def State.judge (s : State) : State :=
  if s.chkCalc ≠ s.chkRx then s.raiseError .checksumMismatch else s.complete

/-- SAMPLE[IDX] <- c (R173); an index above 40 does not exist (R61). -/
def State.storeSample (s : State) (c : Byte) : Option State :=
  if Memory.inSpace s.idx.toNat then some { s with sample := Memory.write s.sample s.idx.toNat c } else none

/-! ### START (R131, R132) -/

/-- START accepted (R131): one atomic step; LINE_OE and LINE_OUT are not touched. -/
def State.startCall (s : State) : State :=
  { s with
    phase := Phase.idleWait, busy := true, done := false, outcome := outcomeNone, idx := 0, poll := 0, sample := [],
    bits := 0, humRaw := 0, tempRaw := 0, chkRx := 0, chkCalc := 0, humX10 := 0, tempX10 := 0, tempNeg := false,
    micro := .enter }

/-! ### The collaborators' side of the port (R140 to R146, R215, R216) -/

/-- Ghost time passes (R244); nothing reads it. One draw of the free values is used up. -/
def State.pass (s : State) (ns : Nat) : State := { s with clock := s.clock + ns, draws := s.draws + 1 }

/-- A drive operation of the GPIO Line takes some time, of which the spec says nothing (R215). -/
def State.passDrive (s : State) : State := s.pass (Config.driveLength s.draws)

/-- A wait of so many nanoseconds is done no earlier (R145, R146) and at most T_JIT later (R7, D13). -/
def State.passWait (s : State) (asked : Nat) : State :=
  s.pass (asked + Config.waitLateness s.draws % (Config.tJit + 1))

/-- The read of a poll and all else of it beyond the wait take at most T_OVH (R241, D13). -/
def State.passRead (s : State) : State := s.pass (Config.readLength s.draws % (Config.tOvh + 1))

/-- The level the ADE drives: LINE_OUT while LINE_OE = 1, none while the outside world decides (R73). -/
def State.drivenLevel (s : State) : Option Level := if s.lineOe then some s.lineOut else none

/-- The answer of the next line read (R73, R144): the script's next answer in input mode, and free values where the script has
run out (log 4) or the ADE drives the line (U4, log 5). -/
def State.nextAnswer (s : State) : Level :=
  match s.drivenLevel with
  | some _ => Config.drivenAnswer s.draws
  | none =>
    match s.script with
    | b :: _ => b
    | [] => Config.lineAnswer s.draws

/-- The script after the next line read: an answer is used once (R66). -/
def State.scriptAfter (s : State) : List Level :=
  match s.drivenLevel with
  | some _ => s.script
  | none => s.script.tail

/-! ### Reset and the host (R38, R67, R230, R231) -/

/-- Reset (R230, R231): every register as R45 says, the operation in flight abandoned. The outside world's part of the state
goes on: log 9. -/
def State.applyReset (s : State) : State :=
  { State.reset with
    inputs := s.inputs, script := s.script, hostData := s.hostData, trace := s.trace, draws := s.draws, clock := s.clock }

/-- A host read (R38): the value goes to the host and nothing else changes. -/
def State.hostRead (s : State) (r : HostReg) : State := { s with hostData := s.hostValue r }

end Sys2Proof.Machine
end

