-- ==== Sys2Proof/Machine/Data.lean ====
section
/-! DEFINITION. The data formats (30_encoding.md R91 to R96) as operations of the decoder: the word is the datum held in the
register its row of the opcode table names, and the row's `decode` column is applied to it. A phase operation is the same
operation on the register's own contents. DESIGN CHOICE, log 10. -/

namespace Sys2Proof.Machine

/-- PULSE c (R91, R180): c as SAMPLE[i] for i = IDX, and BIT[i] = 1 exactly when c > 5. -/
def execPulse (c : Byte) (s : State) : Host.Outcome State Fault Refusal :=
  match s.storeSample c with
  | some t => .next { t with bits := setBit t.bits t.idx.toNat (classifyCount c) }
  | none => .fault .sampleIndex

/-- FRAME41 (R92, R93): the frame as BIT[0..40], and the three fields from it; the bit x enters no field (R64). -/
def execFrame41 (x : BitVec 1) (h t : Half) (c : Byte) (s : State) : Host.Outcome State Fault Refusal :=
  .next ({ s with bits := frameOf x h t c }.loadFields (frameHum (frameOf x h t c)) (frameTemp (frameOf x h t c))
    (frameChk (frameOf x h t c)))

/-- FIELD16 as humidity (R94, R182): the word as HUM_RAW, and HUM_X10 = HUM_RAW & 0x7FFF. -/
def execField16Hum (u : BitVec 1) (v : BitVec 15) (s : State) : Host.Outcome State Fault Refusal :=
  .next ({ s with humRaw := u ++ v }.convertHum (u ++ v))

/-- FIELD16 as temperature (R95, R183): the word as TEMP_RAW, TEMP_NEG and TEMP_X10 from it. -/
def execField16Temp (g : BitVec 1) (m : BitVec 15) (s : State) : Host.Outcome State Fault Refusal :=
  .next ({ s with tempRaw := g ++ m }.convertTemp (g ++ m))

/-- CHECKSUM8 (R96, R190, R191): the byte as CHK_RX, CHK_CALC computed, and the running call accepted or rejected. -/
def execChecksum8 (k : Byte) (s : State) : Host.Outcome State Fault Refusal :=
  .next ({ s with chkRx := k }.computeChecksum.ifRunning State.judge)

end Sys2Proof.Machine
end

