-- ==== Sys2Proof/Machine/DecodePhases.lean ====
section
/-! DEFINITION. P6 to P9: classification, extraction, conversion (44_decode.md R180 to R183) and the checksum validator
(45_checksum.md R190, R191). No port operation; one step each (decision D18). -/

namespace Sys2Proof.Machine

/-- P6, CLASSIFY (R180): BIT[i] <- SAMPLE[i] > 5 for i = 0..40; PHASE <- 8. -/
def execClassify (s : State) : Host.Outcome State Fault Refusal :=
  .next ({ s with bits := classifyAll s.sample s.bits }.goto Phase.extract)

/-- P7, EXTRACT (R181): the three fields from BIT[1..40]; PHASE <- 9. -/
def execExtract (s : State) : Host.Outcome State Fault Refusal :=
  .next ((s.loadFields (frameHum s.bits) (frameTemp s.bits) (frameChk s.bits)).goto Phase.convert)

/-- P8, CONVERT (R182, R183): HUM_X10, TEMP_NEG, TEMP_X10; PHASE <- 10. -/
def execConvert (s : State) : Host.Outcome State Fault Refusal :=
  .next (((s.convertHum s.humRaw).convertTemp s.tempRaw).goto Phase.verify)

/-- P9, VERIFY (R190, R191): CHK_CALC, then ChecksumMismatch or Complete(). The ghost time of P6 to P9 passes here (R241). -/
def execVerify (s : State) : Host.Outcome State Fault Refusal :=
  .next ((s.pass Config.tPost).computeChecksum.judge)

end Sys2Proof.Machine
end

