-- ==== Sys2Proof/Machine/Handshake.lean ====
section
/-! DEFINITION. IDLE, P1 to P4 (42_handshake.md R160 to R164) and the reserved PHASE codes (30_encoding.md R103). A meaning
takes the phase operation from where the sequencer stands to its next port operation or to the end of the phase: the port
operations between are steps of their own (41_primitives.md R148; log 2). -/

namespace Sys2Proof.Machine

/-- IDLE: no operation; the block waits for START (R21, R220). -/
def execIdle (s : State) : Host.Outcome State Fault Refusal := .next s

/-- P1, IDLE_WAIT (R160): SetInput(); PollUntil(H, 126) or BusHung; PHASE <- 2. -/
def execIdleWait (s : State) : Host.Outcome State Fault Refusal :=
  match s.micro with
  | .loop | .ticked | .answered =>
    s.pollPhase true Config.bIdle .busHung (fun t => .next (t.goto Phase.wake))
  | _ => .next (s.issue Pop.setInput .loop)

/-- P2, WAKE (R161, R239): DriveLow(); SetOutput(); WaitMs(20); SetInput(); PHASE <- 3. It cannot fail. -/
def execWake (s : State) : Host.Outcome State Fault Refusal :=
  match s.micro with
  | .latched => .next (s.issue Pop.setOutput .driven)
  | .driven => .next (s.issue Pop.wakeHold .held)
  | .held => .next (s.issue Pop.setInput .released)
  | .released => .next (s.goto Phase.ackStart)
  | _ => .next (s.issue Pop.driveLow .latched)

/-- P3, ACK_START (R162): PollUntil(H, 26) or NotPresent; PHASE <- 4. -/
def execAckStart (s : State) : Host.Outcome State Fault Refusal :=
  s.pollPhase true Config.bAckStart .notPresent (fun t => .next (t.goto Phase.ackEnd))

/-- P4, ACK_END (R163): PollUntil(L, 51) or AckTooLong; IDX <- 0; PHASE <- 5. -/
def execAckEnd (s : State) : Host.Outcome State Fault Refusal :=
  s.pollPhase false Config.bAckEnd .ackTooLong (fun t => .next ({ t with idx := 0 }.goto Phase.sync))

/-- PHASE_RESERVED_11: a reserved code in PHASE is a fault (R103, U6). -/
def execPhaseReserved11 (_s : State) : Host.Outcome State Fault Refusal := .fault .reservedPhase

/-- PHASE_RESERVED_12_15: likewise (R103, U6). -/
def execPhaseReserved12to15 (_r : BitVec 2) (_s : State) : Host.Outcome State Fault Refusal := .fault .reservedPhase

end Sys2Proof.Machine
end

