-- ==== Sys2Proof/Machine/HostCommand.lean ====
section
/-! DEFINITION. The host command (40_command.md R131, R132; 30_encoding.md R101) and the host's STATUS access (10_state.md R40). -/

namespace Sys2Proof.Machine

/-- READ: START accepted while BUSY = 0 (R131), ignored while BUSY = 1 (R132). Bits 7:1 are ignored (R39). -/
def execRead (_i : BitVec 7) (s : State) : Host.Outcome State Fault Refusal :=
  .next (if s.busy then s else s.startCall)

/-- NOCMD: a CMD write with bit 0 = 0 does nothing (R39, R101). -/
def execNocmd (_i : BitVec 7) (s : State) : Host.Outcome State Fault Refusal := .next s

/-- STATUS: the host's access to register 1 (R38, R40). The register is read only, so what the word presented holds is ignored;
the host gets the STATUS byte. Log 12. -/
def execStatus (_o : BitVec 3) (_n _d _b : BitVec 1) (s : State) : Host.Outcome State Fault Refusal :=
  .next (s.hostRead .status)

end Sys2Proof.Machine
end

