-- ==== Sys2Proof/Machine/Outcomes.lean ====
section
/-! DEFINITION. The outcome codes (30_encoding.md R98) as what they stand for: the end of the running call with that outcome
(40_command.md R134, 60_exceptions.md R201 to R207, R210), and NONE (10_state.md R33). DESIGN CHOICE, log 11. -/

namespace Sys2Proof.Machine

/-- Success: Complete() (R134). -/
def execSuccess (s : State) : Host.Outcome State Fault Refusal := .next (s.ifRunning State.complete)

/-- BusHung (R201, R207). -/
def execBusHung (s : State) : Host.Outcome State Fault Refusal := .next (s.ifRunning (·.raiseError .busHung))

/-- NotPresent (R202, R207). -/
def execNotPresent (s : State) : Host.Outcome State Fault Refusal := .next (s.ifRunning (·.raiseError .notPresent))

/-- AckTooLong (R203, R207). -/
def execAckTooLong (s : State) : Host.Outcome State Fault Refusal := .next (s.ifRunning (·.raiseError .ackTooLong))

/-- SyncTimeout (R204, R207). -/
def execSyncTimeout (s : State) : Host.Outcome State Fault Refusal := .next (s.ifRunning (·.raiseError .syncTimeout))

/-- DataTimeout (R205, R207). -/
def execDataTimeout (s : State) : Host.Outcome State Fault Refusal := .next (s.ifRunning (·.raiseError .dataTimeout))

/-- ChecksumMismatch (R206, R207). -/
def execChecksumMismatch (s : State) : Host.Outcome State Fault Refusal :=
  .next (s.ifRunning (·.raiseError .checksumMismatch))

/-- NONE (R33): no call has finished; OUTCOME and with it DONE (R35) say so. -/
def execNoOutcome (s : State) : Host.Outcome State Fault Refusal := .next { s with outcome := outcomeNone, done := false }

end Sys2Proof.Machine
end

