-- ==== Sys2Proof/Machine/Port.lean ====
section
/-! DEFINITION. The port operations as the collaborators perform them (41_primitives.md R140 to R146; 60_exceptions.md R215,
R216). None writes a flag and none can fail. The operand n of a line operation says nothing (R100); a word in which it is
not 0 is stopped before it gets here (log 13). -/

namespace Sys2Proof.Machine

/-- SET_INPUT (R140): LINE_OE <- 0; LINE_OUT unchanged. -/
def execSetInput (_n : Byte) (s : State) : Host.Outcome State Fault Refusal := .next { s.passDrive with lineOe := false }

/-- SET_OUTPUT (R141): LINE_OE <- 1. -/
def execSetOutput (_n : Byte) (s : State) : Host.Outcome State Fault Refusal := .next { s.passDrive with lineOe := true }

/-- DRIVE_LOW (R142): LINE_OUT <- 0. -/
def execDriveLow (_n : Byte) (s : State) : Host.Outcome State Fault Refusal := .next { s.passDrive with lineOut := false }

/-- DRIVE_HIGH (R143): LINE_OUT <- 1. Defined and never issued. -/
def execDriveHigh (_n : Byte) (s : State) : Host.Outcome State Fault Refusal := .next { s.passDrive with lineOut := true }

/-- LINE_READ (R144): one Boolean to the sequencer; no other effect on the ADE. -/
def execLineRead (_n : Byte) (s : State) : Host.Outcome State Fault Refusal :=
  .next { s.passRead with popRdata := s.nextAnswer, script := s.scriptAfter }

/-- WAIT_US n (R145): no effect on the ADE; n microseconds pass at least. -/
def execWaitUs (n : Byte) (s : State) : Host.Outcome State Fault Refusal := .next (s.passWait (1000 * n.toNat))

/-- WAIT_MS n (R146): no effect on the ADE; n milliseconds pass at least. -/
def execWaitMs (n : Byte) (s : State) : Host.Outcome State Fault Refusal := .next (s.passWait (1000000 * n.toNat))

/-- POP_RESERVED: operation 7 is not defined (R103, U6). -/
def execPopReserved (_n : Byte) (_s : State) : Host.Outcome State Fault Refusal := .fault .reservedPop

end Sys2Proof.Machine
end

