-- ==== Sys2Proof/Machine/Sampling.lean ====
section
/-! DEFINITION. P5A and P5B, the acquisition loop (43_sampling.md R170 to R174). -/

namespace Sys2Proof.Machine

/-- P5A, SYNC (R171): PollUntil(H, 36) or SyncTimeout; on to P5B. The count is not stored. -/
def execSync (s : State) : Host.Outcome State Fault Refusal :=
  s.pollPhase true Config.bSync .syncTimeout (fun t => .next (t.goto Phase.measure))

/-- IDX <- IDX + 1; back to P5A until IDX = 41, then P6 (R21, R170). -/
def State.nextSample (s : State) : State :=
  let t : State := { s with idx := s.idx + 1 }
  if t.idx.toNat = Config.nSamples then t.goto Phase.classify else t.goto Phase.sync

/-- What follows a matched PollUntil in P5B: SAMPLE[IDX] <- c (R173), then the loop's control (R170). -/
def State.takeSample (s : State) : Host.Outcome State Fault Refusal :=
  match s.storeSample s.poll with
  | some t => .next t.nextSample
  | none => .fault .sampleIndex

/-- P5B, MEASURE (R172, R173): PollUntil(L, 51) or DataTimeout; SAMPLE[IDX] <- the count; the loop's control (R170). -/
def execMeasure (s : State) : Host.Outcome State Fault Refusal :=
  s.pollPhase false Config.bData .dataTimeout State.takeSample

end Sys2Proof.Machine
end

