-- ==== Sys2Proof/Machine/Dispatch.lean ====
section
/-! DEFINITION. One arm per instruction. -/

namespace Sys2Proof.Machine

def exec (i : Instr) (s : State) : Host.Outcome State Fault Refusal :=
  match i with
  | .read i7 => Sys2Proof.Machine.execRead i7 s
  | .nocmd i7 => Sys2Proof.Machine.execNocmd i7 s
  | .idle => Sys2Proof.Machine.execIdle s
  | .idleWait => Sys2Proof.Machine.execIdleWait s
  | .wake => Sys2Proof.Machine.execWake s
  | .ackStart => Sys2Proof.Machine.execAckStart s
  | .ackEnd => Sys2Proof.Machine.execAckEnd s
  | .sync => Sys2Proof.Machine.execSync s
  | .measure => Sys2Proof.Machine.execMeasure s
  | .classify => Sys2Proof.Machine.execClassify s
  | .extract => Sys2Proof.Machine.execExtract s
  | .convert => Sys2Proof.Machine.execConvert s
  | .verify => Sys2Proof.Machine.execVerify s
  | .phaseReserved11 => Sys2Proof.Machine.execPhaseReserved11 s
  | .phaseReserved12to15 r => Sys2Proof.Machine.execPhaseReserved12to15 r s
  | .setInput n => Sys2Proof.Machine.execSetInput n s
  | .setOutput n => Sys2Proof.Machine.execSetOutput n s
  | .driveLow n => Sys2Proof.Machine.execDriveLow n s
  | .driveHigh n => Sys2Proof.Machine.execDriveHigh n s
  | .lineRead n => Sys2Proof.Machine.execLineRead n s
  | .waitUs n => Sys2Proof.Machine.execWaitUs n s
  | .waitMs n => Sys2Proof.Machine.execWaitMs n s
  | .popReserved n => Sys2Proof.Machine.execPopReserved n s
  | .pulse c => Sys2Proof.Machine.execPulse c s
  | .frame41 x h t c => Sys2Proof.Machine.execFrame41 x h t c s
  | .field16Hum u v => Sys2Proof.Machine.execField16Hum u v s
  | .field16Temp g m => Sys2Proof.Machine.execField16Temp g m s
  | .checksum8 k => Sys2Proof.Machine.execChecksum8 k s
  | .status o n d b => Sys2Proof.Machine.execStatus o n d b s
  | .success => Sys2Proof.Machine.execSuccess s
  | .busHung => Sys2Proof.Machine.execBusHung s
  | .notPresent => Sys2Proof.Machine.execNotPresent s
  | .ackTooLong => Sys2Proof.Machine.execAckTooLong s
  | .syncTimeout => Sys2Proof.Machine.execSyncTimeout s
  | .dataTimeout => Sys2Proof.Machine.execDataTimeout s
  | .checksumMismatch => Sys2Proof.Machine.execChecksumMismatch s
  | .noOutcome => Sys2Proof.Machine.execNoOutcome s

end Sys2Proof.Machine
end

