-- ==== Sys2Proof/WellFormed.lean ====
section
/-! DEFINITION. Which instructions are well formed: the operand values the formats of the spec admit.

30_encoding.md R100: the n field of a port-operation word is the duration of the two waits and "0 for every other operation";
R103 lists "POP words with op 0 to 4 and n not 0" among the encodings that carry no meaning. Every other operand of the table
admits every value of its width (R91, R94 to R96, R101), the n of a wait too (R145, R146); which waits a word at the port may be
is checked where the port is read (R103; Machine/Fetch.lean, waitMeant; log 13). -/

namespace Sys2Proof

/-- The operand check: n is 0 in the five line operations (R100, R103). -/
def Instr.wellFormed : Instr → Bool
  | .setInput n => n == 0
  | .setOutput n => n == 0
  | .driveLow n => n == 0
  | .driveHigh n => n == 0
  | .lineRead n => n == 0
  | .read _ => true
  | .nocmd _ => true
  | .idle => true
  | .idleWait => true
  | .wake => true
  | .ackStart => true
  | .ackEnd => true
  | .sync => true
  | .measure => true
  | .classify => true
  | .extract => true
  | .convert => true
  | .verify => true
  | .phaseReserved11 => true
  | .phaseReserved12to15 _ => true
  | .waitUs _ => true
  | .waitMs _ => true
  | .popReserved _ => true
  | .pulse _ => true
  | .frame41 _ _ _ _ => true
  | .field16Hum _ _ => true
  | .field16Temp _ _ => true
  | .checksum8 _ => true
  | .status _ _ _ _ => true
  | .success => true
  | .busHung => true
  | .notPresent => true
  | .ackTooLong => true
  | .syncTimeout => true
  | .dataTimeout => true
  | .checksumMismatch => true
  | .noOutcome => true

end Sys2Proof
end

