-- ==== Sys2Proof/Decode.lean ====
section
/-! DEFINITION. The decoder, total on every word and rejecting by name; the encoder, written from the same tables of
30_encoding.md; and the opcode table itself as rows of mask and pattern.

A word is decoded in a format: what it means depends on where it stands (in CMD, in PHASE, at the port, in the decoder), never
on the word alone (R90: "no mode bit changes how anything is decoded"). -/

namespace Sys2Proof

/-- Why a word is no word of its format. -/
inductive DecodeError where
  /-- A bit above the format's width is 1. -/
  | tooWide
  /-- Bit 3 or bit 7 of a STATUS byte is 1 (R40: "reserved, reads 0"). -/
  | reservedStatusBit
  deriving DecidableEq, Repr

/-- The decoder's answer. -/
inductive Decoded where
  | ok (i : Instr)
  | rejected (e : DecodeError)
  deriving DecidableEq, Repr

/-- Bits lo+n-1 : lo of a word (R8). -/
def field (w : Word) (lo n : Nat) : BitVec n := w.extractLsb' lo n

/-- HOSTCMD (R101): bit 0 is START. -/
def decodeHostCmd (w : Word) : Instr :=
  if field w 0 1 = 1#1 then .read (field w 1 7) else .nocmd (field w 1 7)

/-- PHASE codes (R99). -/
def decodePhase (w : Word) : Instr :=
  match (field w 0 4).toNat with
  | 0 => .idle
  | 1 => .idleWait
  | 2 => .wake
  | 3 => .ackStart
  | 4 => .ackEnd
  | 5 => .sync
  | 6 => .measure
  | 7 => .classify
  | 8 => .extract
  | 9 => .convert
  | 10 => .verify
  | 11 => .phaseReserved11
  | _ => .phaseReserved12to15 (field w 0 2)

/-- POP words (R100): op in bits 10:8, n in bits 7:0. -/
def decodePop (w : Word) : Instr :=
  match (field w 8 3).toNat with
  | 0 => .setInput (field w 0 8)
  | 1 => .setOutput (field w 0 8)
  | 2 => .driveLow (field w 0 8)
  | 3 => .driveHigh (field w 0 8)
  | 4 => .lineRead (field w 0 8)
  | 5 => .waitUs (field w 0 8)
  | 6 => .waitMs (field w 0 8)
  | _ => .popReserved (field w 0 8)

/-- OUTCOME codes (R98). -/
def decodeOutcome (w : Word) : Instr :=
  match (field w 0 3).toNat with
  | 0 => .success
  | 1 => .busHung
  | 2 => .notPresent
  | 3 => .ackTooLong
  | 4 => .syncTimeout
  | 5 => .dataTimeout
  | 6 => .checksumMismatch
  | _ => .noOutcome

/-- The STATUS byte 0ooo0ndb (R40). -/
def decodeHostReg (w : Word) : Decoded :=
  if field w 3 1 = 0#1 ∧ field w 7 1 = 0#1 then
    .ok (.status (field w 4 3) (field w 2 1) (field w 1 1) (field w 0 1))
  else .rejected .reservedStatusBit

/-- The word w read in the format f. -/
def decodeIn (f : WordFormat) (w : Word) : Decoded :=
  match f with
  | .hostcmd => .ok (decodeHostCmd w)
  | .phase => .ok (decodePhase w)
  | .pop => .ok (decodePop w)
  | .pulse => .ok (.pulse (field w 0 8))
  | .frame41 => .ok (.frame41 (field w 40 1) (field w 24 16) (field w 8 16) (field w 0 8))
  | .field16Hum => .ok (.field16Hum (field w 15 1) (field w 0 15))
  | .field16Temp => .ok (.field16Temp (field w 15 1) (field w 0 15))
  | .checksum8 => .ok (.checksum8 (field w 0 8))
  | .hostreg => decodeHostReg w
  | .outcome => .ok (decodeOutcome w)

/-- The decoder: a word with a bit above the format's width is rejected, every other word is read in its format. -/
def decode (f : WordFormat) (w : Word) : Decoded :=
  if w.toNat < 2 ^ f.width then decodeIn f w else .rejected .tooWide

/-! ### The encoder -/

/-- A POP word from its op and n (R100). -/
def popWordOf (op : BitVec 3) (n : Byte) : PopWord := op ++ n

/-- The word of an instruction, by the encodings of R91 to R101 and R40. -/
def encode : Instr → Word
  | .read i => (i ++ 1#1).setWidth 48
  | .nocmd i => (i ++ 0#1).setWidth 48
  | .idle => 0x0
  | .idleWait => 0x1
  | .wake => 0x2
  | .ackStart => 0x3
  | .ackEnd => 0x4
  | .sync => 0x5
  | .measure => 0x6
  | .classify => 0x7
  | .extract => 0x8
  | .convert => 0x9
  | .verify => 0xA
  | .phaseReserved11 => 0xB
  | .phaseReserved12to15 r => (0b11#2 ++ r).setWidth 48
  | .setInput n => (popWordOf 0 n).setWidth 48
  | .setOutput n => (popWordOf 1 n).setWidth 48
  | .driveLow n => (popWordOf 2 n).setWidth 48
  | .driveHigh n => (popWordOf 3 n).setWidth 48
  | .lineRead n => (popWordOf 4 n).setWidth 48
  | .waitUs n => (popWordOf 5 n).setWidth 48
  | .waitMs n => (popWordOf 6 n).setWidth 48
  | .popReserved n => (popWordOf 7 n).setWidth 48
  | .pulse c => c.setWidth 48
  | .frame41 x h t c => (x ++ h ++ t ++ c).setWidth 48
  | .field16Hum u v => (u ++ v).setWidth 48
  | .field16Temp s m => (s ++ m).setWidth 48
  | .checksum8 k => k.setWidth 48
  | .status o n d b => (0#1 ++ o ++ 0#1 ++ n ++ d ++ b).setWidth 48
  | .success => 0
  | .busHung => 1
  | .notPresent => 2
  | .ackTooLong => 3
  | .syncTimeout => 4
  | .dataTimeout => 5
  | .checksumMismatch => 6
  | .noOutcome => 7

/-! ### The opcode table -/

/-- A row of spec/opcode_table.json: a word w of the row's format belongs to the row when w &&& mask = pattern. -/
structure Row where
  mnemonic : String
  format : WordFormat
  pattern : Word
  mask : Word
  deriving DecidableEq, Repr

/-- The host command and the phase codes. -/
def opcodeTableSequencer : List Row :=
  [ ⟨"READ", .hostcmd, 0x01, 0x01⟩, ⟨"NOCMD", .hostcmd, 0x00, 0x01⟩,
    ⟨"IDLE", .phase, 0x0, 0xF⟩, ⟨"IDLE_WAIT", .phase, 0x1, 0xF⟩, ⟨"WAKE", .phase, 0x2, 0xF⟩,
    ⟨"ACK_START", .phase, 0x3, 0xF⟩, ⟨"ACK_END", .phase, 0x4, 0xF⟩, ⟨"SYNC", .phase, 0x5, 0xF⟩,
    ⟨"MEASURE", .phase, 0x6, 0xF⟩, ⟨"CLASSIFY", .phase, 0x7, 0xF⟩, ⟨"EXTRACT", .phase, 0x8, 0xF⟩,
    ⟨"CONVERT", .phase, 0x9, 0xF⟩, ⟨"VERIFY", .phase, 0xA, 0xF⟩, ⟨"PHASE_RESERVED_11", .phase, 0xB, 0xF⟩,
    ⟨"PHASE_RESERVED_12_15", .phase, 0xC, 0xC⟩ ]

/-- The port operations. -/
def opcodeTablePort : List Row :=
  [ ⟨"SET_INPUT", .pop, 0x000, 0x700⟩, ⟨"SET_OUTPUT", .pop, 0x100, 0x700⟩, ⟨"DRIVE_LOW", .pop, 0x200, 0x700⟩,
    ⟨"DRIVE_HIGH", .pop, 0x300, 0x700⟩, ⟨"LINE_READ", .pop, 0x400, 0x700⟩, ⟨"WAIT_US", .pop, 0x500, 0x700⟩,
    ⟨"WAIT_MS", .pop, 0x600, 0x700⟩, ⟨"POP_RESERVED", .pop, 0x700, 0x700⟩ ]

/-- The data formats, STATUS and the outcome codes. -/
def opcodeTableData : List Row :=
  [ ⟨"PULSE", .pulse, 0, 0⟩, ⟨"FRAME41", .frame41, 0, 0⟩, ⟨"FIELD16_HUM", .field16Hum, 0, 0⟩,
    ⟨"FIELD16_TEMP", .field16Temp, 0, 0⟩, ⟨"CHECKSUM8", .checksum8, 0, 0⟩, ⟨"STATUS", .hostreg, 0x00, 0x88⟩,
    ⟨"Success", .outcome, 0, 7⟩, ⟨"BusHung", .outcome, 1, 7⟩, ⟨"NotPresent", .outcome, 2, 7⟩,
    ⟨"AckTooLong", .outcome, 3, 7⟩, ⟨"SyncTimeout", .outcome, 4, 7⟩, ⟨"DataTimeout", .outcome, 5, 7⟩,
    ⟨"ChecksumMismatch", .outcome, 6, 7⟩, ⟨"NONE", .outcome, 7, 7⟩ ]

/-- The whole table, in its own order. -/
def opcodeTable : List Row := opcodeTableSequencer ++ opcodeTablePort ++ opcodeTableData

/-! ### Words of the table given without their format -/

/-- The format a bare word of nbits bits is read in. Several formats of the table have one width and share words, and a bare
word does not say which is meant, so this is a DESIGN CHOICE (log 15): up to 3 bits OUTCOME, 4 bits PHASE; in 8 bits the host
command bytes 0x00, 0x01 and all from 0x10 on are HOSTCMD and 0x02 to 0x0F are PHASE codes; up to 16 bits POP where the word
has 11 bits, else the humidity field; longer, FRAME41. -/
def formatOfBare (nbits w : Nat) : WordFormat :=
  if nbits ≤ 3 then .outcome
  else if nbits ≤ 4 then .phase
  else if nbits ≤ 8 then (if 2 ≤ w ∧ w < 16 then .phase else .hostcmd)
  else if nbits ≤ 16 then (if w < 2 ^ 11 then .pop else .field16Hum)
  else .frame41

/-- The instruction the decoder reads from a bare word of the table. -/
def decodeTableWord (nbits w : Nat) : Option Instr :=
  if w < 2 ^ 48 then
    match decode (formatOfBare nbits w) (BitVec.ofNat 48 w) with
    | .ok i => some i
    | .rejected _ => none
  else none

end Sys2Proof
end

