-- ==== Sys2Proof/Machine/Fetch.lean ====
section
/-! DEFINITION. What the next step runs: the outside event that comes first, else the port operation in flight, else the phase
operation PHASE names (20_memory.md R70; 10_state.md R21; 41_primitives.md R148). Logs 1, 3, 15, 16, 18. -/

namespace Sys2Proof.Machine

/-- What the fetch comes to. -/
inductive Fetched where
  /-- Run this instruction on this state: the state with what was consumed taken out. -/
  | instr (i : Instr) (s : State)
  /-- Nothing is decoded; this is the next state. -/
  | settled (s : State)
  /-- The word has no meaning. -/
  | stop (f : Fault)
  deriving DecidableEq, Repr

/-- A word read in a format and checked (R103, U6). -/
def fetchWord (f : WordFormat) (w : Word) (s : State) : Fetched :=
  match decode f w with
  | .ok i => if i.wellFormed then .instr i s else .stop .illFormed
  | .rejected _ => .stop .undecodable

/-- A wait at the port carries a meaning only with the duration the ADE issues it with, 2 microseconds or 20 milliseconds (R100,
R103, U6). -/
def waitMeant (w : PopWord) : Bool :=
  (w.extractLsb' 8 3 != 5#3 || w.extractLsb' 0 8 == Config.tickUs) &&
  (w.extractLsb' 8 3 != 6#3 || w.extractLsb' 0 8 == Config.wakeMs)

/-- The block's own next move: the collaborator performs the operation in flight, which is then done (R148), and when none is
in flight the sequencer goes on with the operation PHASE names (R21). -/
def fetchOwn (s : State) : Fetched :=
  match s.popWord with
  | some w => if waitMeant w then fetchWord .pop (w.setWidth 48) { s with popWord := none } else .stop .foreignWait
  | none => fetchWord .phase (s.phase.setWidth 48) s

/-- An event: host accesses (R38, R39, R67, R101), reset (R230), waiting (R148), the test seam. -/
def fetchEvent (e : Event) (s : State) : Fetched :=
  match e with
  | .run => fetchOwn s
  | .stall => .settled s
  | .reset => .settled s.applyReset
  | .hostWrite r v =>
    match r with
    | .cmd => fetchWord .hostcmd ((v.setWidth 8).setWidth 48) s
    | .status => .settled s
    | .humX10 => .settled s
    | .tempX10 => .settled s
  | .hostRead r =>
    match r with
    | .status => fetchWord .hostreg (s.statusByte.setWidth 48) s
    | .cmd => .settled (s.hostRead .cmd)
    | .humX10 => .settled (s.hostRead .humX10)
    | .tempX10 => .settled (s.hostRead .tempX10)
  | .inject f w => fetchWord f w s

/-- The fetch. -/
def fetch (s : State) : Fetched :=
  match s.inputs with
  | [] => fetchOwn s
  | e :: rest => fetchEvent e { s with inputs := rest }

/-- The word w of the format f placed where the next step fetches it (log 16): a CMD write for a host command, PHASE itself
(with BUSY, R34) for a phase code, the test seam for every other format. -/
def State.placeWord (s : State) (f : WordFormat) (w : Word) : State :=
  match f with
  | .hostcmd => { s with inputs := .hostWrite .cmd (w.setWidth 16) :: s.inputs }
  | .phase =>
    { s with
      inputs := .run :: s.inputs, popWord := none, micro := .enter, phase := w.setWidth 4,
      busy := w.setWidth 4 != Phase.idle }
  | .pop => { s with inputs := .inject .pop w :: s.inputs }
  | .pulse => { s with inputs := .inject .pulse w :: s.inputs }
  | .frame41 => { s with inputs := .inject .frame41 w :: s.inputs }
  | .field16Hum => { s with inputs := .inject .field16Hum w :: s.inputs }
  | .field16Temp => { s with inputs := .inject .field16Temp w :: s.inputs }
  | .checksum8 => { s with inputs := .inject .checksum8 w :: s.inputs }
  | .hostreg => { s with inputs := .inject .hostreg w :: s.inputs }
  | .outcome => { s with inputs := .inject .outcome w :: s.inputs }

end Sys2Proof.Machine
end

