-- ==== Sys2Proof/Machine/Step.lean ====
section
/-! DEFINITION. One step: what the fetch gives is run. -/

namespace Sys2Proof.Machine

/-- One step of the machine. -/
def step (s : State) : Host.Outcome State Fault Refusal :=
  match fetch s with
  | .instr i t => exec i t
  | .settled t => .next t
  | .stop f => .fault f

/-- A bare word of the opcode table placed where the next step fetches it. Logs 15, 16. -/
def State.withFetchWord (s : State) (nbits w : Nat) : State :=
  s.placeWord (formatOfBare nbits w) (BitVec.ofNat 48 w)

end Sys2Proof.Machine
end

