-- ==== Sys2Proof/Machine/Call.lean ====
section
/-! DEFINITION. A whole call as a function of its read script, the functional reading of the block (00_scope.md R11;
40_command.md R133, R137; 44_decode.md R187), written on numbers and lists from the pseudocode of R133 and R147. The machine does
not use it: statements compare the machine with it. -/

namespace Sys2Proof.Machine.Call

/-- A call under way: the answers to come, the port operations so far, POLL, and the samples taken, in order. -/
structure Progress where
  script : List Level
  trace : List PopWord
  poll : Nat
  samples : List Nat
  deriving DecidableEq, Repr

/-- A port operation is issued. -/
def Progress.issued (p : Progress) (ws : List PopWord) : Progress := { p with trace := p.trace ++ ws }

/-- At most n polls (R147): true with the count when an answer is the awaited level, false after n others; none where the
script is too short to tell. -/
def Progress.polls (level : Level) : Nat → Progress → Option (Bool × Progress)
  | 0, p => some (false, p)
  | n + 1, p =>
    match p.script with
    | [] => none
    | v :: rest =>
      let q : Progress := { p with script := rest, trace := p.trace ++ [0x502, 0x400], poll := p.poll + 1 }
      if v = level then some (true, q) else Progress.polls level n q

/-- PollUntil(level, N) (R147). -/
def Progress.pollUntil (p : Progress) (level : Level) (n : Nat) : Option (Bool × Progress) :=
  Progress.polls level n { p with poll := 0 }

/-- How a part of a call ends. -/
inductive Part where
  | through (p : Progress)
  | failed (k : ProtocolError) (p : Progress)
  deriving DecidableEq, Repr

/-- A polling phase: through, or the error when the bound was reached. -/
def Progress.await (p : Progress) (level : Level) (n : Nat) (k : ProtocolError) : Option Part :=
  match p.pollUntil level n with
  | none => none
  | some (true, q) => some (.through q)
  | some (false, q) => some (.failed k q)

/-- One part after another; a failure ends the call (R207). -/
def Part.andThen (x : Option Part) (f : Progress → Option Part) : Option Part :=
  match x with
  | some (.through p) => f p
  | some (.failed k p) => some (.failed k p)
  | none => none

/-- P1 to P4 (R133, R160 to R163). -/
def handshake (p : Progress) : Option Part :=
  Part.andThen ((p.issued [0x000]).await true 126 .busHung) fun p =>
  Part.andThen ((p.issued [0x200, 0x100, 0x614, 0x000]).await true 26 .notPresent) fun p =>
  p.await false 51 .ackTooLong

/-- One iteration of P5 (R170 to R173). -/
def iteration (p : Progress) : Option Part :=
  Part.andThen (p.await true 36 .syncTimeout) fun p =>
  Part.andThen (p.await false 51 .dataTimeout) fun p =>
  some (.through { p with samples := p.samples ++ [p.poll] })

/-- n iterations. -/
def iterations : Nat → Progress → Option Part
  | 0, p => some (.through p)
  | n + 1, p => Part.andThen (iteration p) (iterations n)

/-- A field of the samples (R91, R93): n samples from the first on, a count above 5 a 1, most significant first. -/
def fieldOf (samples : List Nat) (first n : Nat) : Nat :=
  (List.range n).foldl (fun acc j => 2 * acc + (if samples.getD (first + j) 0 > 5 then 1 else 0)) 0

/-- The sum of the payload bytes mod 256 (R190). -/
def byteSumOf (h t : Nat) : Nat := (h / 256 + h % 256 + t / 256 + t % 256) % 256

/-- How a call ended: its outcome and, on success, humidity and temperature in tenths (R130). -/
structure CallEnd where
  outcome : ProtocolOutcome
  humidity : Nat
  temperature : Int
  negative : Bool
  last : Progress
  deriving DecidableEq, Repr

/-- P6 to P9 (R187): what 41 samples come to. -/
def judgement (p : Progress) : CallEnd :=
  let h := fieldOf p.samples 1 16
  let t := fieldOf p.samples 17 16
  if byteSumOf h t = fieldOf p.samples 33 8 then
    { outcome := .success, humidity := h % 32768,
      temperature := if t ≥ 32768 then -((t % 32768 : Nat) : Int) else (t : Int), negative := t ≥ 32768, last := p }
  else { outcome := .error .checksumMismatch, humidity := 0, temperature := 0, negative := false, last := p }

/-- A whole call (R133): none where the script is too short for it to end. -/
def run (script : List Level) : Option CallEnd :=
  match Part.andThen (handshake ⟨script, [], 0, []⟩) (iterations 41) with
  | none => none
  | some (.failed k p) => some { outcome := .error k, humidity := 0, temperature := 0, negative := false, last := p }
  | some (.through p) => some (judgement p)

end Sys2Proof.Machine.Call
end

