-- ==== Sys2Proof/Safety.lean ====
section
/-! DEFINITION. The terms the statements use: the spec's invariants (10_state.md R43), the coherence of the model's own place
field with the port and the line, agents' inputs only, and the end of a call (70_reset_and_hazards.md R245). -/

namespace Sys2Proof.Machine

/-- An event of the spec's agents (R10): all but the test seam. -/
def Event.ofAgent : Event → Bool
  | .run => true
  | .stall => true
  | .hostWrite _ _ => true
  | .hostRead _ => true
  | .reset => true
  | .inject _ _ => false

/-- R43, its ten items. -/
structure SpecInvariants (s : State) : Prop where
  /-- (1) BUSY = 1 if and only if PHASE is not 0. -/
  busy_iff : s.busy = true ↔ s.phase ≠ 0
  /-- (2) BUSY and DONE are not both 1. -/
  not_both : ¬(s.busy = true ∧ s.done = true)
  /-- (3) DONE = 1 if and only if OUTCOME is not 7. -/
  done_iff : s.done = true ↔ s.outcome ≠ 7
  /-- (4) LINE_OUT = 0. -/
  line_out : s.lineOut = false
  /-- (5) LINE_OE = 1 only while PHASE = 2. -/
  line_oe : s.lineOe = true → s.phase = 2
  /-- (6) HUM_X10[15] = 0. -/
  hum_top : s.humX10.getLsbD 15 = false
  /-- (7) TEMP_X10 is not 0x8000. -/
  temp_range : s.tempX10 ≠ 0x8000
  /-- (8) Every SAMPLE[i] is 0 or lies in 1 to 51. -/
  sample_range : ∀ i, (Memory.read s.sample i).toNat ≤ 51
  /-- (8) For i < IDX it is not 0. -/
  sample_taken : ∀ i, i < s.idx.toNat → Memory.read s.sample i ≠ 0
  /-- (9) When DONE = 1 and OUTCOME is not 0, the result registers are 0. -/
  error_clears : s.done = true → s.outcome ≠ 0 → s.humX10 = 0 ∧ s.tempX10 = 0 ∧ s.tempNeg = false
  /-- (10) POLL is at most 126. -/
  poll_range : s.poll.toNat ≤ 126
  /-- (10) IDX is at most 41. -/
  idx_range : s.idx.toNat ≤ 41

/-- In flight is nothing or w. -/
def State.inFlight (s : State) (w : PopWord) : Prop := s.popWord = none ∨ s.popWord = some w

/-- The sequencer is inside a poll of a loop with the bound n: between 1 and n polls are counted (R23, R147). -/
def State.polling (s : State) (n : Nat) : Prop :=
  ((s.micro = .ticked ∧ s.inFlight 0x502) ∨ (s.micro = .answered ∧ s.inFlight 0x400)) ∧ 1 ≤ s.poll.toNat ∧ s.poll.toNat ≤ n

/-- The sequencer has just entered its phase. -/
def State.entered (s : State) : Prop := s.micro = .enter ∧ s.popWord = none

/-- The place inside P2, with the line (R73, R161). -/
def State.waking (s : State) : Prop :=
  (s.entered ∧ s.lineOe = false) ∨ (s.micro = .latched ∧ s.inFlight 0x200 ∧ s.lineOe = false) ∨
  (s.micro = .driven ∧ s.popWord = some 0x100 ∧ s.lineOe = false) ∨ (s.micro = .driven ∧ s.popWord = none ∧ s.lineOe = true) ∨
  (s.micro = .held ∧ s.inFlight 0x614 ∧ s.lineOe = true) ∨
  (s.micro = .released ∧ s.popWord = some 0x000 ∧ s.lineOe = true) ∨ (s.micro = .released ∧ s.popWord = none ∧ s.lineOe = false)

/-- PHASE, the place inside the phase, the port and the line's direction belong together. -/
def State.placed (s : State) : Prop :=
  match s.phase.toNat with
  | 0 => s.popWord = none ∧ s.lineOe = false
  | 1 => (s.entered ∨ (s.micro = .loop ∧ s.inFlight 0x000) ∨ s.polling 126) ∧ s.lineOe = false
  | 2 => s.waking
  | 3 => (s.entered ∨ s.polling 26) ∧ s.lineOe = false
  | 4 => (s.entered ∨ s.polling 51) ∧ s.lineOe = false
  | 5 => (s.entered ∨ s.polling 36) ∧ s.lineOe = false
  | 6 => (s.entered ∨ s.polling 51) ∧ s.lineOe = false
  | 7 => s.entered ∧ s.lineOe = false
  | 8 => s.entered ∧ s.lineOe = false
  | 9 => s.entered ∧ s.lineOe = false
  | 10 => s.entered ∧ s.lineOe = false
  | _ => False

/-- PHASE lies from a to b. -/
def State.phaseIn (s : State) (a b : Nat) : Prop := a ≤ s.phase.toNat ∧ s.phase.toNat ≤ b

/-- What the model adds to R43 so that a step keeps it. -/
structure Coherent (s : State) : Prop where
  agents : ∀ e ∈ s.inputs, e.ofAgent = true
  placed : s.placed
  sample_wf : Memory.wf s.sample = true
  /-- IDX is 0 before P5 (R22, R131). -/
  idx_before : s.phaseIn 1 4 → s.idx.toNat = 0
  /-- IDX is an index in P5 (R61, R170). -/
  idx_during : s.phaseIn 5 6 → s.idx.toNat ≤ 40
  /-- IDX is 41 after P5 (R22). -/
  idx_after : s.phaseIn 7 10 → s.idx.toNat = 41
  /-- Entries not taken yet are 0 (R24). -/
  sample_ahead : s.phaseIn 1 6 → ∀ i, s.idx.toNat ≤ i → Memory.read s.sample i = 0
  /-- No decoding during acquisition (R174). -/
  bits_clear : s.phaseIn 1 7 → s.bits = 0
  raw_clear : s.phaseIn 1 8 → s.humRaw = 0 ∧ s.tempRaw = 0 ∧ s.chkRx = 0
  result_clear : s.phaseIn 1 9 → s.humX10 = 0 ∧ s.tempX10 = 0 ∧ s.tempNeg = false
  calc_clear : s.phaseIn 1 10 → s.chkCalc = 0

/-- The invariant of every step made by the agents of the spec. -/
structure Inv (s : State) : Prop where
  spec : SpecInvariants s
  coherent : Coherent s

/-- R245: the run of a call is over. -/
def State.callOver (s : State) : Prop := s.busy = false ∧ s.done = true ∧ s.outcome ≠ 7

/-- So many steps from a state, stopping at the first stop. -/
def steps (n : Nat) (s : State) : Host.Outcome State Fault Refusal := Host.Core.run Sys2Proof.core n s

/-! ### What stays the same, by group

One predicate per group of state; a frame is a conjunction of them. -/

/-- PHASE and IDX and POLL (R21 to R23) are the same. -/
def State.sameSequencer (s t : State) : Prop := t.phase = s.phase ∧ t.idx = s.idx ∧ t.poll = s.poll

/-- SAMPLE (R24) is the same, entry by entry and as data. -/
def State.sameSamples (s t : State) : Prop :=
  t.sample = s.sample ∧ ∀ i, Memory.read t.sample i = Memory.read s.sample i

/-- BIT, HUM_RAW, TEMP_RAW, CHK_RX and CHK_CALC (R25 to R29) are the same. -/
def State.sameDecoder (s t : State) : Prop :=
  t.bits = s.bits ∧ t.humRaw = s.humRaw ∧ t.tempRaw = s.tempRaw ∧ t.chkRx = s.chkRx ∧ t.chkCalc = s.chkCalc

/-- HUM_X10, TEMP_X10 and TEMP_NEG (R30 to R32) are the same. -/
def State.sameResults (s t : State) : Prop := t.humX10 = s.humX10 ∧ t.tempX10 = s.tempX10 ∧ t.tempNeg = s.tempNeg

/-- OUTCOME, BUSY and DONE (R33 to R35) are the same. -/
def State.sameStatus (s t : State) : Prop := t.outcome = s.outcome ∧ t.busy = s.busy ∧ t.done = s.done

/-- LINE_OE and LINE_OUT (R36, R37) are the same. -/
def State.sameLine (s t : State) : Prop := t.lineOe = s.lineOe ∧ t.lineOut = s.lineOut

/-- The port (R148), the trace and the place inside the phase operation are the same. -/
def State.samePort (s t : State) : Prop :=
  t.popWord = s.popWord ∧ t.popRdata = s.popRdata ∧ t.trace = s.trace ∧ t.micro = s.micro

/-- The outside world's part is the same: the events to come, the read script and what the host was given. -/
def State.sameWorld (s t : State) : Prop := t.inputs = s.inputs ∧ t.script = s.script ∧ t.hostData = s.hostData

/-- No ghost time passed and no free value was used. -/
def State.sameTime (s t : State) : Prop := t.clock = s.clock ∧ t.draws = s.draws

/-- Every register of R21 to R35 is the same. -/
def State.sameRegisters (s t : State) : Prop :=
  s.sameSequencer t ∧ s.sameSamples t ∧ s.sameDecoder t ∧ s.sameResults t ∧ s.sameStatus t

/-- Everything outside the registers of R21 to R35 is the same. -/
def State.sameOutside (s t : State) : Prop := s.sameLine t ∧ s.samePort t ∧ s.sameWorld t ∧ s.sameTime t

/-- A port operation was issued: the word is in flight and in the trace, the sequencer stands at m, and the rest of the outside
is the same (R148). -/
def State.issued (s t : State) (w : PopWord) (m : Micro) : Prop :=
  t.popWord = some w ∧ t.trace = s.trace ++ [w] ∧ t.micro = m ∧ t.popRdata = s.popRdata ∧ s.sameLine t ∧ s.sameWorld t ∧
  s.sameTime t

/-- The error entry of R207 with the code c: three result registers cleared, the call over, every other register kept. -/
def State.raised (s t : State) (c : BitVec 3) : Prop :=
  t.outcome = c ∧ t.humX10 = 0 ∧ t.tempX10 = 0 ∧ t.tempNeg = false ∧ t.busy = false ∧ t.done = true ∧ t.phase = 0 ∧
  t.idx = s.idx ∧ t.poll = s.poll ∧ s.sameSamples t ∧ s.sameDecoder t ∧ s.sameLine t ∧ s.sameWorld t ∧
  t.popWord = s.popWord ∧ t.popRdata = s.popRdata ∧ t.trace = s.trace

/-- Complete() (R134): the call over with Success, every other register kept. -/
def State.completed (s t : State) : Prop :=
  t.outcome = 0 ∧ t.busy = false ∧ t.done = true ∧ t.phase = 0 ∧ t.idx = s.idx ∧ t.poll = s.poll ∧ s.sameSamples t ∧
  s.sameDecoder t ∧ s.sameResults t ∧ s.sameLine t ∧ s.sameWorld t ∧ t.popWord = s.popWord ∧ t.popRdata = s.popRdata ∧
  t.trace = s.trace

/-- The sequencer moved to the start of phase p; beside PHASE and the place inside it only what a statement names changed. -/
def State.movedTo (s t : State) (p : PhaseCode) : Prop :=
  t.phase = p ∧ t.micro = .enter ∧ t.poll = s.poll ∧ s.sameStatus t ∧ s.sameLine t ∧ s.sameWorld t ∧ s.sameTime t ∧
  t.popWord = s.popWord ∧ t.popRdata = s.popRdata ∧ t.trace = s.trace

/-- R93's sum: n bits of a frame from BIT[first] on, the first the most significant. BIT[i] is bit 40 - i of the frame (R25). -/
def fieldSum (f : Frame) (first n : Nat) : Nat :=
  ((List.range n).map fun j => (if f.getLsbD (40 - (first + j)) then 1 else 0) * 2 ^ (n - 1 - j)).sum

/-- The sum of the four payload bytes (R63, R190), on numbers. -/
def payloadSum (h t : Half) : Nat := h.toNat / 256 + h.toNat % 256 + t.toNat / 256 + t.toNat % 256

/-- The host's gate (R38): DONE = 1 and OUTCOME = 0. -/
def State.gateOpen (s : State) : Prop := s.done = true ∧ s.outcome = 0

/-- A row of R164's table: a polling phase, its code, the awaited level, the bound and the error. -/
structure PollingPhase where
  instr : Instr
  code : PhaseCode
  level : Level
  bound : Nat
  error : BitVec 3
  deriving DecidableEq, Repr

/-- R164: the five polling phases, "the constants are these and no others", with the codes of R98 and R99. -/
def pollingPhases : List PollingPhase :=
  [ ⟨.idleWait, 1, true, 126, 1⟩, ⟨.ackStart, 3, true, 26, 2⟩, ⟨.ackEnd, 4, false, 51, 3⟩, ⟨.sync, 5, true, 36, 4⟩,
    ⟨.measure, 6, false, 51, 5⟩ ]

/-- The six words the ADE issues (R100). -/
def issuedWords : List PopWord := [0x000, 0x100, 0x200, 0x400, 0x502, 0x614]

/-- The next thing to happen is not the reset input. -/
def State.noReset (s : State) : Prop := s.inputs.head? ≠ some .reset

/-- The next thing to happen is a START: a CMD write with bit 0 = 1 (R39). -/
def State.startComes (s : State) : Prop := ∃ v rest, s.inputs = .hostWrite .cmd v :: rest ∧ v.getLsbD 0 = true

end Sys2Proof.Machine
end

