-- ==== Sys2Proof/Certificates/Slice0/Obligations.lean ====
section
/-! DEFINITION. The statements for the provers. Each docstring names the rules of the spec it formalises; what rests on a choice of
the model names its log entry. -/

open Sys2Proof Sys2Proof.Machine

/-! ## Encodings -/

/-- R90 to R101, R40: every instruction, with every operand, is read back from its word. -/
def Obligations.DecodeOfEncode : Prop := ∀ i : Instr, decode i.format (encode i) = .ok i

/-- R90: every word of a format stands for one instruction of that format, whose word it is: no bit is dropped. -/
def Obligations.EncodeOfDecode : Prop :=
  ∀ (f : WordFormat) (w : Word) (i : Instr), decode f w = .ok i → encode i = w ∧ i.format = f

/-- R98 to R101: the decoder follows the rows of the opcode table, and no word belongs to two rows of its format. -/
def Obligations.DecodeFollowsTable : Prop :=
  ∀ (f : WordFormat) (w : Word) (i : Instr), decode f w = .ok i →
    (∃ r ∈ opcodeTable, r.format = f ∧ w &&& r.mask = r.pattern ∧ r.mnemonic = i.mnemonic) ∧
    ∀ r ∈ opcodeTable, r.format = f → w &&& r.mask = r.pattern → r.mnemonic = i.mnemonic

/-- R90, R40: a word is refused exactly when it does not fit its format's one width, or, as a STATUS byte, has bit 3 or 7 set. -/
def Obligations.DecodeRefuses : Prop :=
  ∀ (f : WordFormat) (w : Word),
    (∃ e, decode f w = .rejected e) ↔
      (2 ^ f.width ≤ w.toNat ∨ (f = .hostreg ∧ (w.getLsbD 3 = true ∨ w.getLsbD 7 = true)))

/-- R98 to R101: words written out from the tables. -/
def Obligations.WordsOfTheTables : Prop :=
  decode .hostcmd 0b00000001 = .ok (.read 0) ∧ decode .hostcmd 0b11111110 = .ok (.nocmd 0b1111111) ∧
  decode .phase 0b0110 = .ok .measure ∧ decode .phase 0b1010 = .ok .verify ∧
  decode .pop 0b00000000000 = .ok (.setInput 0) ∧ decode .pop 0b10000000000 = .ok (.lineRead 0) ∧
  decode .pop 0x502 = .ok (.waitUs 2) ∧ decode .pop 0x614 = .ok (.waitMs 20) ∧
  decode .field16Temp 0x80C8 = .ok (.field16Temp 1 200) ∧ decode .hostreg 0x62 = .ok (.status 6 0 1 0) ∧
  decode .outcome 0b011 = .ok .ackTooLong ∧ decode .outcome 0b111 = .ok .noOutcome

/-! ## A step -/

/-- R148, R68: a port operation in flight, its word well formed and, if a wait, of the duration the ADE issues (R100, R103), is
performed by the step, and is then done: the port is empty when its meaning runs. The step takes place with no outside event to
come (log 1) or at a `run` event. The words shut out are those ReservedCodesStop says stop (log 13). -/
def Obligations.StepPerformsPortOperation : Prop :=
  ∀ (s : State) (w : PopWord) (i : Instr) (rest : List Event),
    s.popWord = some w → (w.toNat / 256 = 5 → w.toNat % 256 = 2) → (w.toNat / 256 = 6 → w.toNat % 256 = 20) →
    decode .pop (w.setWidth 48) = .ok i → i.wellFormed = true →
    (s.inputs = [] → step s = exec i { s with popWord := none }) ∧
    (s.inputs = .run :: rest → step s = exec i { s with popWord := none, inputs := rest })

/-- R21: with no port operation in flight the step runs the phase operation PHASE names, when no outside event is to come (log 1)
or at a `run` event. -/
def Obligations.StepRunsPhaseOperation : Prop :=
  ∀ (s : State) (i : Instr) (rest : List Event),
    s.popWord = none → decode .phase (s.phase.setWidth 48) = .ok i →
    (s.inputs = [] → step s = exec i s) ∧ (s.inputs = .run :: rest → step s = exec i { s with inputs := rest })

/-- R38, R39, R101: a host write to CMD runs READ or NOCMD by bit 0 of the byte written; a write to another register is
ignored. That a host access is an event of the list, its value 16 bits of which CMD takes the low byte, is log 21. -/
def Obligations.StepHostWrite : Prop :=
  ∀ (s : State) (r : HostReg) (v : Half) (rest : List Event), s.inputs = .hostWrite r v :: rest →
    (r = .cmd → v.getLsbD 0 = true → step s = exec (.read (v.extractLsb' 1 7)) { s with inputs := rest }) ∧
    (r = .cmd → v.getLsbD 0 = false → step s = exec (.nocmd (v.extractLsb' 1 7)) { s with inputs := rest }) ∧
    (r ≠ .cmd → step s = .next { s with inputs := rest })

/-- R38, R40, R66: a host read gives the register as the host sees it, behind the gate, and changes nothing else. -/
def Obligations.StepHostRead : Prop :=
  ∀ (s : State) (r : HostReg) (rest : List Event), s.inputs = .hostRead r :: rest →
    ∃ v : Half, step s = .next { s with inputs := rest, hostData := v } ∧
      (r = .cmd → v = 0) ∧
      (r = .status →
        v.toNat = 16 * s.outcome.toNat + (if s.done = true ∧ s.outcome = 0 ∧ s.tempNeg = true then 4 else 0) +
          (if s.done = true then 2 else 0) + (if s.busy = true then 1 else 0)) ∧
      (r = .humX10 → (s.gateOpen → v = s.humX10) ∧ (¬ s.gateOpen → v = 0)) ∧
      (r = .tempX10 → (s.gateOpen → v = s.tempX10) ∧ (¬ s.gateOpen → v = 0))

/-- R230, R231, R45: reset, at any moment, in any state: every register takes its reset value, the operation in flight is
abandoned, the line is released. What the outside world still does, has and was given goes on (log 9). -/
def Obligations.StepReset : Prop :=
  ∀ (s : State) (rest : List Event), s.inputs = .reset :: rest →
    ∃ t, step s = .next t ∧ t.phase = 0 ∧ t.idx = 0 ∧ t.poll = 0 ∧ (∀ i, Memory.read t.sample i = 0) ∧ t.bits = 0 ∧
      t.humRaw = 0 ∧ t.tempRaw = 0 ∧ t.chkRx = 0 ∧ t.chkCalc = 0 ∧ t.humX10 = 0 ∧ t.tempX10 = 0 ∧ t.tempNeg = false ∧
      t.outcome = 7 ∧ t.busy = false ∧ t.done = false ∧ t.lineOe = false ∧ t.lineOut = false ∧ t.popWord = none ∧
      t.inputs = rest ∧ t.script = s.script ∧ t.hostData = s.hostData ∧ t.trace = s.trace ∧ s.sameTime t

/-- R45: the values after reset, what the host reads then, and that the block does nothing until START. -/
def Obligations.ResetValues : Prop :=
  State.reset.phase = 0 ∧ State.reset.idx = 0 ∧ State.reset.poll = 0 ∧ (∀ i, Memory.read State.reset.sample i = 0) ∧
  State.reset.bits = 0 ∧ State.reset.humRaw = 0 ∧ State.reset.tempRaw = 0 ∧ State.reset.chkRx = 0 ∧
  State.reset.chkCalc = 0 ∧ State.reset.humX10 = 0 ∧ State.reset.tempX10 = 0 ∧ State.reset.tempNeg = false ∧
  State.reset.outcome = 7 ∧ State.reset.busy = false ∧ State.reset.done = false ∧ State.reset.lineOe = false ∧
  State.reset.lineOut = false ∧ State.reset.statusByte = 0x70 ∧ State.reset.hostValue .humX10 = 0 ∧
  State.reset.hostValue .tempX10 = 0 ∧ step State.reset = .next State.reset

/-- R148: a moment in which an operation is not done yet leaves everything as it is. And log 18, the model's own: a word put
through the test seam runs the instruction it decodes to. -/
def Obligations.StepStallAndSeam : Prop :=
  ∀ (s : State) (rest : List Event),
    (s.inputs = .stall :: rest → step s = .next { s with inputs := rest }) ∧
    ∀ (f : WordFormat) (w : Word) (i : Instr), s.inputs = .inject f w :: rest → decode f w = .ok i → i.wellFormed = true →
      step s = exec i { s with inputs := rest }

/-! ## The host command -/

/-- R131: START accepted. -/
def Obligations.ReadStartsCall : Prop :=
  ∀ (i : BitVec 7) (s : State), s.busy = false →
    ∃ t, exec (.read i) s = .next t ∧ t.phase = 1 ∧ t.busy = true ∧ t.done = false ∧ t.outcome = 7 ∧ t.idx = 0 ∧
      t.poll = 0 ∧ (∀ a, Memory.read t.sample a = 0) ∧ (∀ a, t.bits.getLsbD a = false) ∧ t.humRaw = 0 ∧ t.tempRaw = 0 ∧
      t.chkRx = 0 ∧ t.chkCalc = 0 ∧ t.humX10 = 0 ∧ t.tempX10 = 0 ∧ t.tempNeg = false ∧ s.sameLine t ∧ s.sameWorld t ∧
      s.sameTime t ∧ t.popWord = s.popWord ∧ t.popRdata = s.popRdata ∧ t.trace = s.trace ∧ t.micro = .enter

/-- R132: START while BUSY = 1 is ignored: no register changes. -/
def Obligations.ReadIgnoredWhileBusy : Prop := ∀ (i : BitVec 7) (s : State), s.busy = true → exec (.read i) s = .next s

/-- R39, R101, R21, R220: a CMD write with bit 0 = 0 is no command, and IDLE is no operation. -/
def Obligations.NocmdAndIdleDoNothing : Prop :=
  ∀ (i : BitVec 7) (s : State), exec (.nocmd i) s = .next s ∧ exec .idle s = .next s

/-- R40, R38: STATUS gives the host the STATUS byte and changes nothing else, whatever word is presented (log 12). -/
def Obligations.StatusReads : Prop :=
  ∀ (o : BitVec 3) (n d b : BitVec 1) (s : State),
    ∃ t, exec (.status o n d b) s = .next t ∧
      t.hostData.toNat = 16 * s.outcome.toNat + (if s.done = true ∧ s.outcome = 0 ∧ s.tempNeg = true then 4 else 0) +
        (if s.done = true then 2 else 0) + (if s.busy = true then 1 else 0) ∧
      s.sameRegisters t ∧ s.sameLine t ∧ s.samePort t ∧ s.sameTime t ∧ t.inputs = s.inputs ∧ t.script = s.script

/-! ## The polling phases: P1, P3, P4, P5A, P5B -/

/-- R160, R140: P1 begins with SET_INPUT. That a place that belongs to another phase (latched, driven, held, released) counts as
the beginning is the model's choice, log 2. -/
def Obligations.IdleWaitReleasesLine : Prop :=
  ∀ s : State, s.micro ≠ .loop → s.micro ≠ .ticked → s.micro ≠ .answered →
    ∃ t, exec .idleWait s = .next t ∧ s.issued t 0x000 .loop ∧ s.sameRegisters t

/-- R147, R23, R164, R145: a polling loop begins with POLL = 1 and the wait of 2 microseconds. That a place that belongs to
another phase (for P3, P4, P5A and P5B: loop, latched, driven, held, released) counts as the beginning is the model's choice,
log 2. -/
def Obligations.PollBegins : Prop :=
  ∀ r ∈ pollingPhases, ∀ s : State, s.micro ≠ .ticked → s.micro ≠ .answered → (r.instr = .idleWait → s.micro = .loop) →
    ∃ t, exec r.instr s = .next t ∧ t.poll = 1 ∧ s.issued t 0x502 .ticked ∧ t.phase = s.phase ∧ t.idx = s.idx ∧
      s.sameSamples t ∧ s.sameDecoder t ∧ s.sameResults t ∧ s.sameStatus t

/-- R147: after the wait of a poll comes one read of the line. -/
def Obligations.PollReads : Prop :=
  ∀ r ∈ pollingPhases, ∀ s : State, s.micro = .ticked →
    ∃ t, exec r.instr s = .next t ∧ s.issued t 0x400 .answered ∧ s.sameRegisters t

/-- R147: an answer that is not the awaited level, below the bound, begins the next poll. -/
def Obligations.PollGoesOn : Prop :=
  ∀ r ∈ pollingPhases, ∀ s : State, s.micro = .answered → s.popRdata ≠ r.level → s.poll.toNat ≠ r.bound →
    ∃ t, exec r.instr s = .next t ∧ t.poll = s.poll + 1 ∧ s.issued t 0x502 .ticked ∧ t.phase = s.phase ∧ t.idx = s.idx ∧
      s.sameSamples t ∧ s.sameDecoder t ∧ s.sameResults t ∧ s.sameStatus t

/-- R147, R164, R160 to R163, R171, R172, R201 to R205, R207: an answer that is not the awaited level, at the bound, raises the
phase's error; no port operation is issued. -/
def Obligations.PollFails : Prop :=
  ∀ r ∈ pollingPhases, ∀ s : State, s.micro = .answered → s.popRdata ≠ r.level → s.poll.toNat = r.bound →
    ∃ t, exec r.instr s = .next t ∧ s.raised t r.error ∧ s.sameTime t

/-- R147, R160, R162, R163, R171, R22: the awaited level, on any poll, moves P1, P3, P4 and P5A on; P4 sets IDX to 0. -/
def Obligations.PollMatches : Prop :=
  ∀ s : State, s.micro = .answered →
    (s.popRdata = true →
      (∃ t, exec .idleWait s = .next t ∧ s.movedTo t 2 ∧ t.idx = s.idx ∧ s.sameSamples t ∧ s.sameDecoder t ∧ s.sameResults t) ∧
      (∃ t, exec .ackStart s = .next t ∧ s.movedTo t 4 ∧ t.idx = s.idx ∧ s.sameSamples t ∧ s.sameDecoder t ∧ s.sameResults t) ∧
      (∃ t, exec .sync s = .next t ∧ s.movedTo t 6 ∧ t.idx = s.idx ∧ s.sameSamples t ∧ s.sameDecoder t ∧ s.sameResults t)) ∧
    (s.popRdata = false →
      ∃ t, exec .ackEnd s = .next t ∧ s.movedTo t 5 ∧ t.idx = 0 ∧ s.sameSamples t ∧ s.sameDecoder t ∧ s.sameResults t)

/-- R172, R173, R170, R21: in P5B the awaited low stores POLL at SAMPLE[IDX], steps IDX and goes to P5A, or to P6 after the 41st
sample; every other entry reads as before. That it stops with an IDX above 40 is the model's choice, log 8: R61 says only that
such an index is never formed. -/
def Obligations.MeasureStoresSample : Prop :=
  ∀ s : State, s.micro = .answered → s.popRdata = false → Memory.wf s.sample = true →
    (s.idx.toNat ≤ 40 →
      ∃ t, exec .measure s = .next t ∧ Memory.read t.sample s.idx.toNat = s.poll ∧
        (∀ a, a ≠ s.idx.toNat → Memory.read t.sample a = Memory.read s.sample a) ∧ t.idx.toNat = s.idx.toNat + 1 ∧
        s.movedTo t (if s.idx.toNat + 1 < 41 then 5 else 7) ∧ s.sameDecoder t ∧ s.sameResults t) ∧
    (40 < s.idx.toNat → exec .measure s = .fault .sampleIndex)

/-! ## P2 -/

/-- R161, R239: DRIVE_LOW, SET_OUTPUT, WAIT_MS 20, SET_INPUT, then P3; nothing is tested and no register changes before. That a
place that belongs to another phase (loop, ticked, answered) counts as the beginning, in the last clause, is the model's choice,
log 2. -/
def Obligations.WakeSequence : Prop :=
  ∀ s : State,
    (s.micro = .latched → ∃ t, exec .wake s = .next t ∧ s.issued t 0x100 .driven ∧ s.sameRegisters t) ∧
    (s.micro = .driven → ∃ t, exec .wake s = .next t ∧ s.issued t 0x614 .held ∧ s.sameRegisters t) ∧
    (s.micro = .held → ∃ t, exec .wake s = .next t ∧ s.issued t 0x000 .released ∧ s.sameRegisters t) ∧
    (s.micro = .released →
      ∃ t, exec .wake s = .next t ∧ s.movedTo t 3 ∧ t.idx = s.idx ∧ s.sameSamples t ∧ s.sameDecoder t ∧ s.sameResults t) ∧
    (s.micro ≠ .latched → s.micro ≠ .driven → s.micro ≠ .held → s.micro ≠ .released →
      ∃ t, exec .wake s = .next t ∧ s.issued t 0x200 .latched ∧ s.sameRegisters t)

/-! ## P6 to P9 -/

/-- R180, R91: BIT[i] is 1 exactly when SAMPLE[i] is above 5, for all 41 indices; then P7. -/
def Obligations.ClassifyBits : Prop :=
  ∀ s : State, ∃ t, exec .classify s = .next t ∧
    (∀ i, i ≤ 40 → (t.bits.getLsbD (40 - i) = true ↔ 5 < (Memory.read s.sample i).toNat)) ∧
    s.movedTo t 8 ∧ t.idx = s.idx ∧ s.sameSamples t ∧ t.humRaw = s.humRaw ∧ t.tempRaw = s.tempRaw ∧ t.chkRx = s.chkRx ∧
    t.chkCalc = s.chkCalc ∧ s.sameResults t

/-- R181, R93, R62: the three fields, most significant bit first, from BIT[1..16], BIT[17..32], BIT[33..40]; then P8. -/
def Obligations.ExtractFields : Prop :=
  ∀ s : State, ∃ t, exec .extract s = .next t ∧
    t.humRaw.toNat = fieldSum s.bits 1 16 ∧ t.tempRaw.toNat = fieldSum s.bits 17 16 ∧ t.chkRx.toNat = fieldSum s.bits 33 8 ∧
    s.movedTo t 9 ∧ t.idx = s.idx ∧ s.sameSamples t ∧ t.bits = s.bits ∧ t.chkCalc = s.chkCalc ∧ s.sameResults t

/-- R182, R183: humidity without bit 15; the temperature's sign and magnitude to two's complement; the flag; then P9. -/
def Obligations.ConvertValues : Prop :=
  ∀ s : State, ∃ t, exec .convert s = .next t ∧
    t.humX10.toNat = s.humRaw.toNat % 32768 ∧ (t.tempNeg = true ↔ 32768 ≤ s.tempRaw.toNat) ∧
    t.tempX10.toInt =
      (if 32768 ≤ s.tempRaw.toNat then -((s.tempRaw.toNat % 32768 : Nat) : Int) else (s.tempRaw.toNat : Int)) ∧
    s.movedTo t 10 ∧ t.idx = s.idx ∧ s.sameSamples t ∧ s.sameDecoder t

/-- R190, R191, R134, R206, R207: CHK_CALC is the sum of the four raw bytes mod 256; equal to CHK_RX the call completes, else it
ends in ChecksumMismatch. Log 17: the ghost clock gains T_POST here. -/
def Obligations.VerifyDecides : Prop :=
  ∀ s : State, ∃ t, exec .verify s = .next t ∧
    t.chkCalc.toNat = payloadSum s.humRaw s.tempRaw % 256 ∧ t.clock = s.clock + Config.tPost ∧
    (payloadSum s.humRaw s.tempRaw % 256 = s.chkRx.toNat → ({ s with chkCalc := t.chkCalc } : State).completed t) ∧
    (payloadSum s.humRaw s.tempRaw % 256 ≠ s.chkRx.toNat → ({ s with chkCalc := t.chkCalc } : State).raised t 6)

/-! ## The port operations -/

/-- R140 to R143, R215: the four drive operations write one latch each and nothing else; some time passes (log 17).
The spec gives them no operand (R100, R103): that the meanings ignore an n that is not 0 is the model's choice, log 13. -/
def Obligations.DriveOperations : Prop :=
  ∀ (n : Byte) (s : State),
    (∃ t, exec (.setInput n) s = .next t ∧ t.lineOe = false ∧ t.lineOut = s.lineOut ∧ s.sameRegisters t ∧ s.samePort t ∧
      s.sameWorld t ∧ s.clock ≤ t.clock) ∧
    (∃ t, exec (.setOutput n) s = .next t ∧ t.lineOe = true ∧ t.lineOut = s.lineOut ∧ s.sameRegisters t ∧ s.samePort t ∧
      s.sameWorld t ∧ s.clock ≤ t.clock) ∧
    (∃ t, exec (.driveLow n) s = .next t ∧ t.lineOe = s.lineOe ∧ t.lineOut = false ∧ s.sameRegisters t ∧ s.samePort t ∧
      s.sameWorld t ∧ s.clock ≤ t.clock) ∧
    (∃ t, exec (.driveHigh n) s = .next t ∧ t.lineOe = s.lineOe ∧ t.lineOut = true ∧ s.sameRegisters t ∧ s.samePort t ∧
      s.sameWorld t ∧ s.clock ≤ t.clock)

/-- R144, R73, R66: in input mode the line read gives the next answer of the read script, used once, or, after its end, a free
value (log 4); in output mode it gives a free value and uses no answer (U4, log 5). Nothing else changes but the time. That the
read alone takes at most T_OVH is the model's choice, log 17: the spec bounds only the whole poll. So is, log 13, that the
meaning ignores an n that is not 0. -/
def Obligations.LineReadAnswers : Prop :=
  ∀ (n : Byte) (s : State), ∃ t, exec (.lineRead n) s = .next t ∧
    (∀ b rest, s.lineOe = false → s.script = b :: rest → t.popRdata = b ∧ t.script = rest) ∧
    (s.lineOe = false → s.script = [] → t.popRdata = Config.lineAnswer s.draws ∧ t.script = []) ∧
    (s.lineOe = true → t.popRdata = Config.drivenAnswer s.draws ∧ t.script = s.script) ∧
    s.sameRegisters t ∧ s.sameLine t ∧ t.popWord = s.popWord ∧ t.trace = s.trace ∧ t.micro = s.micro ∧
    t.inputs = s.inputs ∧ t.hostData = s.hostData ∧ s.clock ≤ t.clock ∧ t.clock ≤ s.clock + Config.tOvh

/-- R145, R146, R7: the two waits have no effect but time: at least what was asked, at most T_JIT more (the ghost clock: log 17).
That the meanings run for an n other than 2 and 20 is the model's choice, log 13: as words at the port those carry no meaning
(R103). -/
def Obligations.WaitsLast : Prop :=
  ∀ (n : Byte) (s : State),
    (∃ t, exec (.waitUs n) s = .next t ∧ s.sameRegisters t ∧ s.sameLine t ∧ s.samePort t ∧ s.sameWorld t ∧
      s.clock + 1000 * n.toNat ≤ t.clock ∧ t.clock ≤ s.clock + 1000 * n.toNat + Config.tJit) ∧
    (∃ t, exec (.waitMs n) s = .next t ∧ s.sameRegisters t ∧ s.sameLine t ∧ s.samePort t ∧ s.sameWorld t ∧
      s.clock + 1000000 * n.toNat ≤ t.clock ∧ t.clock ≤ s.clock + 1000000 * n.toNat + Config.tJit)

/-- R103, U6: the codes that carry no meaning stop: PHASE 11, PHASE 12 to 15 and port operation 7; and a word at the port with op 0
to 4 and n not 0, with op 5 and n not 2, or with op 6 and n not 20 (R100) stops the step (logs 13, 14). -/
def Obligations.ReservedCodesStop : Prop :=
  ∀ (r : BitVec 2) (n : Byte) (w : PopWord) (s : State),
    exec .phaseReserved11 s = .fault .reservedPhase ∧ exec (.phaseReserved12to15 r) s = .fault .reservedPhase ∧
    exec (.popReserved n) s = .fault .reservedPop ∧
    (s.inputs = [] → s.popWord = some w → w.toNat / 256 ≤ 4 → w.toNat % 256 ≠ 0 → step s = .fault .illFormed) ∧
    (s.inputs = [] → s.popWord = some w → w.toNat / 256 = 5 → w.toNat % 256 ≠ 2 → step s = .fault .foreignWait) ∧
    (s.inputs = [] → s.popWord = some w → w.toNat / 256 = 6 → w.toNat % 256 ≠ 20 → step s = .fault .foreignWait)

/-! ## The data words (log 10) -/

/-- R91, R173, R25: PULSE c stores c at SAMPLE[IDX] and BIT[IDX] is 1 exactly when c is above 5; all else is the same. That the
data word is such an operation is the model's choice, log 10, and that an IDX above 40 stops it is log 8: R61 says only that such
an index is never formed. -/
def Obligations.PulseClassifies : Prop :=
  ∀ (c : Byte) (s : State), Memory.wf s.sample = true →
    (s.idx.toNat ≤ 40 →
      ∃ t, exec (.pulse c) s = .next t ∧ Memory.read t.sample s.idx.toNat = c ∧
        (∀ a, a ≠ s.idx.toNat → Memory.read t.sample a = Memory.read s.sample a) ∧
        (t.bits.getLsbD (40 - s.idx.toNat) = true ↔ 5 < c.toNat) ∧
        (∀ a, a ≠ 40 - s.idx.toNat → t.bits.getLsbD a = s.bits.getLsbD a) ∧ t.humRaw = s.humRaw ∧
        t.tempRaw = s.tempRaw ∧ t.chkRx = s.chkRx ∧ t.chkCalc = s.chkCalc ∧ s.sameSequencer t ∧ s.sameResults t ∧
        s.sameStatus t ∧ s.sameOutside t) ∧
    (40 < s.idx.toNat → exec (.pulse c) s = .fault .sampleIndex)

/-- R92, R93, R64: FRAME41 puts the frame in BIT and its three fields in the raw registers; the leading bit enters none. That
the data word is such an operation is the model's choice, log 10. -/
def Obligations.FrameLoads : Prop :=
  ∀ (x : BitVec 1) (h t : Half) (c : Byte) (s : State),
    ∃ u, exec (.frame41 x h t c) s = .next u ∧ u.humRaw = h ∧ u.tempRaw = t ∧ u.chkRx = c ∧
      u.bits.toNat = x.toNat * 2 ^ 40 + h.toNat * 2 ^ 24 + t.toNat * 2 ^ 8 + c.toNat ∧ u.chkCalc = s.chkCalc ∧
      s.sameSequencer u ∧ s.sameSamples u ∧ s.sameResults u ∧ s.sameStatus u ∧ s.sameOutside u

/-- R94, R182, R95, R183: FIELD16 as humidity loads HUM_RAW and HUM_X10; as temperature TEMP_RAW, TEMP_NEG and TEMP_X10. That
the data words are such operations is the model's choice, log 10. -/
def Obligations.FieldsConvert : Prop :=
  ∀ s : State,
    (∀ (u : BitVec 1) (v : BitVec 15), ∃ t, exec (.field16Hum u v) s = .next t ∧
      t.humRaw.toNat = u.toNat * 32768 + v.toNat ∧ t.humX10.toNat = v.toNat ∧ t.tempX10 = s.tempX10 ∧
      t.tempNeg = s.tempNeg ∧ t.bits = s.bits ∧ t.tempRaw = s.tempRaw ∧ t.chkRx = s.chkRx ∧ t.chkCalc = s.chkCalc ∧
      s.sameSequencer t ∧ s.sameSamples t ∧ s.sameStatus t ∧ s.sameOutside t) ∧
    (∀ (g : BitVec 1) (m : BitVec 15), ∃ t, exec (.field16Temp g m) s = .next t ∧
      t.tempRaw.toNat = g.toNat * 32768 + m.toNat ∧ t.tempX10.toInt = (if g = 1 then -(m.toNat : Int) else (m.toNat : Int)) ∧
      (t.tempNeg = true ↔ g = 1) ∧ t.humX10 = s.humX10 ∧ t.bits = s.bits ∧ t.humRaw = s.humRaw ∧ t.chkRx = s.chkRx ∧
      t.chkCalc = s.chkCalc ∧ s.sameSequencer t ∧ s.sameSamples t ∧ s.sameStatus t ∧ s.sameOutside t)

/-- R96, R190, R191, R210: CHECKSUM8 k loads CHK_RX and CHK_CALC and judges a running call; with none running that is all.
That the data word is such an operation is the model's choice, log 10. -/
def Obligations.ChecksumJudges : Prop :=
  ∀ (k : Byte) (s : State), ∃ t, exec (.checksum8 k) s = .next t ∧
    t.chkRx = k ∧ t.chkCalc.toNat = payloadSum s.humRaw s.tempRaw % 256 ∧
    (s.busy = true → payloadSum s.humRaw s.tempRaw % 256 = k.toNat →
      ({ s with chkRx := k, chkCalc := t.chkCalc } : State).completed t) ∧
    (s.busy = true → payloadSum s.humRaw s.tempRaw % 256 ≠ k.toNat →
      ({ s with chkRx := k, chkCalc := t.chkCalc } : State).raised t 6) ∧
    (s.busy = false → t = { s with chkRx := k, chkCalc := t.chkCalc })

/-! ## The outcome words (log 11) -/

/-- R134, R201 to R207, R210: with a call running each outcome code ends it so; with none running it does nothing. R33, R35:
NONE means that no call has finished: OUTCOME = 7 and DONE = 0; all else is the same. That a code is such an operation is the
model's choice, log 11. -/
def Obligations.OutcomesEndCall : Prop :=
  ∀ s : State,
    (s.busy = true →
      (∃ t, exec .success s = .next t ∧ s.completed t ∧ s.sameTime t) ∧
      (∃ t, exec .busHung s = .next t ∧ s.raised t 1 ∧ s.sameTime t) ∧
      (∃ t, exec .notPresent s = .next t ∧ s.raised t 2 ∧ s.sameTime t) ∧
      (∃ t, exec .ackTooLong s = .next t ∧ s.raised t 3 ∧ s.sameTime t) ∧
      (∃ t, exec .syncTimeout s = .next t ∧ s.raised t 4 ∧ s.sameTime t) ∧
      (∃ t, exec .dataTimeout s = .next t ∧ s.raised t 5 ∧ s.sameTime t) ∧
      (∃ t, exec .checksumMismatch s = .next t ∧ s.raised t 6 ∧ s.sameTime t)) ∧
    (s.busy = false →
      exec .success s = .next s ∧ exec .busHung s = .next s ∧ exec .notPresent s = .next s ∧
      exec .ackTooLong s = .next s ∧ exec .syncTimeout s = .next s ∧ exec .dataTimeout s = .next s ∧
      exec .checksumMismatch s = .next s) ∧
    ∃ t, exec .noOutcome s = .next t ∧ t.outcome = 7 ∧ t.done = false ∧ t.busy = s.busy ∧ s.sameSequencer t ∧
      s.sameSamples t ∧ s.sameDecoder t ∧ s.sameResults t ∧ s.sameOutside t

/-! ## Functions of the decoder -/

/-- R192: the validator alone, and that P9 is the validator on HUM_RAW, TEMP_RAW and CHK_RX. -/
def Obligations.ChecksumValidator : Prop :=
  (∀ (h t : Half) (c : Byte),
    (checksumOk h t c = true ↔ (h.toNat / 256 + h.toNat % 256 + t.toNat / 256 + t.toNat % 256) % 256 = c.toNat)) ∧
  ∀ s : State, ∃ t, exec .verify s = .next t ∧ (t.outcome = 0 ↔ checksumOk s.humRaw s.tempRaw s.chkRx = true) ∧
    (t.outcome = 6 ↔ checksumOk s.humRaw s.tempRaw s.chkRx = false)

/-- R191, R64: one wrong bit among BIT[1..40] is always detected; a wrong BIT[0] changes no field. -/
def Obligations.SingleBitErrorDetected : Prop :=
  ∀ f : Frame,
    (∀ i, 1 ≤ i → i ≤ 40 → checksumOk (frameHum f) (frameTemp f) (frameChk f) = true →
      checksumOk (frameHum (f ^^^ (1#41 <<< (40 - i)))) (frameTemp (f ^^^ (1#41 <<< (40 - i))))
        (frameChk (f ^^^ (1#41 <<< (40 - i)))) = false) ∧
    (frameHum (f ^^^ (1#41 <<< 40)) = frameHum f ∧ frameTemp (f ^^^ (1#41 <<< 40)) = frameTemp f ∧
      frameChk (f ^^^ (1#41 <<< 40)) = frameChk f)

/-- R187: from P6 on two states whose samples are classified alike end alike, four steps later, whatever else they hold.
That P6 to P9 take four steps is the model's: log 20. -/
def Obligations.DecodeSeesOnlyClassification : Prop :=
  ∀ s s' : State, s.phase = 7 → s'.phase = 7 → s.popWord = none → s'.popWord = none → s.inputs = [] → s'.inputs = [] →
    (∀ i, i ≤ 40 → (5 < (Memory.read s.sample i).toNat ↔ 5 < (Memory.read s'.sample i).toNat)) →
    ∃ t t', steps 4 s = .next t ∧ steps 4 s' = .next t' ∧ t.sameDecoder t' ∧ t.sameResults t' ∧ t.sameStatus t'

/-- R130, R185: the Result the host reads: the error kind alone, or the Reading as exact tenths. -/
def Obligations.ResultOfCall : Prop :=
  ∀ s : State, s.done = true →
    (s.outcome = 0 →
      s.result = some (.ok { humidity := mkRat s.humX10.toNat 10, temperature := mkRat s.tempX10.toInt 10 })) ∧
    ∀ k : ProtocolError, s.outcome = k.code → s.result = some (.error k)

/-! ## The whole machine -/

/-- R43 and what the model adds hold after reset. The coherence that Inv adds to R43 is the model's: logs 2, 3. -/
def Obligations.ResetInvariant : Prop := Inv State.reset

/-- R43: every step of the spec's agents keeps the invariant, from every state that has it. The coherence that Inv adds to R43
is the model's: logs 2, 3. -/
def Obligations.StepKeepsInvariant : Prop := ∀ s t : State, Inv s → step s = .next t → Inv t

/-- R103, R133, R135: no such state is ever stuck, faults or is refused: every step answers a next state. -/
def Obligations.StepAlwaysAnswers : Prop := ∀ s : State, Inv s → ∃ t, step s = .next t

/-- R21, R209, R200: PHASE moves only as R21's table says, and every error comes from its own phase. -/
def Obligations.PhaseTransitions : Prop :=
  ∀ s t : State, Inv s → s.noReset → step s = .next t → t.phase ≠ s.phase →
    (s.phase = 0 ∧ t.phase = 1 ∧ s.startComes) ∨
    (s.phase = 1 ∧ t.phase = 2) ∨ (s.phase = 2 ∧ t.phase = 3) ∨ (s.phase = 3 ∧ t.phase = 4) ∨
    (s.phase = 4 ∧ t.phase = 5 ∧ t.idx = 0) ∨ (s.phase = 5 ∧ t.phase = 6 ∧ t.idx = s.idx) ∨
    (s.phase = 6 ∧ t.phase = 5 ∧ t.idx.toNat = s.idx.toNat + 1 ∧ t.idx.toNat < 41) ∨
    (s.phase = 6 ∧ t.phase = 7 ∧ t.idx.toNat = s.idx.toNat + 1 ∧ t.idx.toNat = 41) ∨
    (s.phase = 7 ∧ t.phase = 8) ∨ (s.phase = 8 ∧ t.phase = 9) ∨ (s.phase = 9 ∧ t.phase = 10) ∨
    (s.phase = 10 ∧ t.phase = 0 ∧ t.outcome = 0) ∨
    (t.phase = 0 ∧ ((s.phase = 1 ∧ t.outcome = 1) ∨ (s.phase = 3 ∧ t.outcome = 2) ∨ (s.phase = 4 ∧ t.outcome = 3) ∨
      (s.phase = 5 ∧ t.outcome = 4) ∨ (s.phase = 6 ∧ t.outcome = 5) ∨ (s.phase = 10 ∧ t.outcome = 6)))

/-- R212, R201 to R207: the state at the moment of each error, reset apart. -/
def Obligations.StateAtEachError : Prop :=
  ∀ s t : State, Inv s → s.noReset → step s = .next t → s.busy = true → t.busy = false →
    (t.done = true ∧ t.phase = 0 ∧ t.lineOe = false ∧ t.lineOut = false) ∧
    (t.outcome ≠ 0 → t.humX10 = 0 ∧ t.tempX10 = 0 ∧ t.tempNeg = false) ∧
    (t.outcome = 1 → s.phase = 1 ∧ t.poll.toNat = 126 ∧ t.idx = 0 ∧ ∀ i, Memory.read t.sample i = 0) ∧
    (t.outcome = 2 → s.phase = 3 ∧ t.poll.toNat = 26 ∧ t.idx = 0 ∧ ∀ i, Memory.read t.sample i = 0) ∧
    (t.outcome = 3 → s.phase = 4 ∧ t.poll.toNat = 51 ∧ t.idx = 0 ∧ ∀ i, Memory.read t.sample i = 0) ∧
    (t.outcome = 4 → s.phase = 5 ∧ t.poll.toNat = 36 ∧ t.idx = s.idx ∧ t.idx.toNat ≤ 40 ∧
      ∀ i, (i < t.idx.toNat → 1 ≤ (Memory.read t.sample i).toNat ∧ (Memory.read t.sample i).toNat ≤ 51) ∧
        (t.idx.toNat ≤ i → Memory.read t.sample i = 0)) ∧
    (t.outcome = 5 → s.phase = 6 ∧ t.poll.toNat = 51 ∧ t.idx = s.idx ∧ t.idx.toNat ≤ 40 ∧
      ∀ i, (i < t.idx.toNat → 1 ≤ (Memory.read t.sample i).toNat ∧ (Memory.read t.sample i).toNat ≤ 51) ∧
        (t.idx.toNat ≤ i → Memory.read t.sample i = 0)) ∧
    (t.outcome = 6 → s.phase = 10 ∧ t.idx.toNat = 41 ∧ t.chkCalc ≠ t.chkRx ∧
      ∀ i, i ≤ 40 → 1 ≤ (Memory.read t.sample i).toNat ∧ (Memory.read t.sample i).toNat ≤ 51)

/-- R100, R68, R143: a step issues at most one word, one of the six, and only with none in flight; the trace keeps the rest. -/
def Obligations.IssuesOnlySixWords : Prop :=
  ∀ s t : State, Inv s → step s = .next t →
    t.trace = s.trace ∨ (s.popWord = none ∧ ∃ w ∈ issuedWords, t.popWord = some w ∧ t.trace = s.trace ++ [w])

/-- R73, R161: the line is read only as an input; during the wake wait it is driven, and low. -/
def Obligations.LineWhileInFlight : Prop :=
  ∀ s : State, Inv s →
    (s.popWord = some 0x400 → s.drivenLevel = none) ∧ (s.popWord = some 0x614 → s.drivenLevel = some false)

/-- R173, R61, R174: SAMPLE changes only by a P5B store of POLL at IDX, by START and by reset. The list that holds SAMPLE is
log 8: the empty one reads 0 everywhere. -/
def Obligations.SamplesWrittenOnlyByMeasure : Prop :=
  ∀ s t : State, Inv s → s.noReset → step s = .next t → t.sample ≠ s.sample →
    (s.busy = false ∧ s.startComes ∧ t.sample = []) ∨
    (s.phase = 6 ∧ s.micro = .answered ∧ s.popRdata = false ∧ s.popWord = none ∧
      Memory.read t.sample s.idx.toNat = s.poll ∧
      ∀ i, i ≠ s.idx.toNat → Memory.read t.sample i = Memory.read s.sample i)

/-- R72, log 8: every step, from any state at all, keeps the sample space in its canonical form. -/
def Obligations.SampleSpaceCanonical : Prop :=
  ∀ s t : State, Memory.wf s.sample = true → step s = .next t → Memory.wf t.sample = true

/-- R132, R66, R74: while a call runs no host access changes anything but the value handed to the host. -/
def Obligations.HostCannotDisturb : Prop :=
  ∀ (s : State) (r : HostReg) (v : Half) (rest : List Event), s.busy = true →
    (s.inputs = .hostWrite r v :: rest → step s = .next { s with inputs := rest }) ∧
    (s.inputs = .hostRead r :: rest → ∃ x, step s = .next { s with inputs := rest, hostData := x })

/-- R208, R67, R40: while a call runs the host reads STATUS 0x71 and zeros; after an error kind k, 16 k + 2 and zeros. -/
def Obligations.HostSeesNoPartialResult : Prop :=
  ∀ s : State, Inv s →
    (s.busy = true → s.statusByte = 0x71 ∧ s.hostValue .humX10 = 0 ∧ s.hostValue .tempX10 = 0) ∧
    (s.done = true → s.outcome ≠ 0 →
      s.statusByte.toNat = 16 * s.outcome.toNat + 2 ∧ s.hostValue .humX10 = 0 ∧ s.hostValue .tempX10 = 0)

/-- R131, R243, R33: what the host can read stays as it is from the end of a call until the next START or reset. -/
def Obligations.ResultStaysUntilStart : Prop :=
  ∀ s t : State, Inv s → s.busy = false → s.noReset → ¬ s.startComes → step s = .next t →
    ∀ r, t.hostValue r = s.hostValue r

/-- R135, R245: left to itself a call ends, within the steps that 3770 polls take: 15180. What counts as one step is the
model's: logs 2, 3, 20. -/
def Obligations.EveryCallEnds : Prop :=
  ∀ s : State, Inv s → s.busy = true → s.inputs = [] →
    ∃ n t, n ≤ 15180 ∧ steps n s = .next t ∧ t.callOver

/-- R135: from a START on, whatever call came before, the call runs at every step until one outcome ends it, and by then has made
at most 3770 line reads, as many waits of 2 microseconds and at most one of 20 milliseconds. What counts as one step is the model's: logs 2, 3, 20. -/
def Obligations.CallBounds : Prop :=
  ∀ (s : State) (v : Half), Inv s → s.busy = false → s.inputs = [.hostWrite .cmd v] → v.getLsbD 0 = true →
    ∃ n t ops, 1 ≤ n ∧ n ≤ 15181 ∧ (∀ m, 1 ≤ m → m < n → ∃ u, steps m s = .next u ∧ u.busy = true) ∧
      steps n s = .next t ∧ t.inputs = [] ∧ t.callOver ∧ t.trace = s.trace ++ ops ∧ ops.count 0x400 ≤ 3770 ∧
      ops.count 0x502 = ops.count 0x400 ∧ ops.count 0x614 ≤ 1

/-- R133, R137, R187: from a START on, the machine does what the functional reading of the spec says of the read script: same
outcome, same result registers, same port trace, same answers used. -/
def Obligations.CallIsTheFunction : Prop :=
  ∀ (s : State) (v : Half) (e : Call.CallEnd), Inv s → s.busy = false → s.inputs = [.hostWrite .cmd v] →
    v.getLsbD 0 = true → Call.run s.script = some e →
    ∃ n t, steps n s = .next t ∧ t.callOver ∧ t.outcome = e.outcome.code ∧ t.humX10.toNat = e.humidity ∧
      t.tempX10.toInt = e.temperature ∧ t.tempNeg = e.negative ∧ t.trace = s.trace ++ e.last.trace ∧
      t.script = e.last.script

/-- R44, R137, R20: two calls with the same answers go alike at every step, whatever ran before. The answers after the end of the
script are the free values, hence the equal counters. -/
def Obligations.CallsAreStateless : Prop :=
  ∀ (s s' : State) (v : Half), Inv s → Inv s' → s.busy = false → s'.busy = false →
    s.inputs = [.hostWrite .cmd v] → s'.inputs = [.hostWrite .cmd v] → v.getLsbD 0 = true → s.script = s'.script →
    s.draws = s'.draws →
    ∀ n, ∃ t t' ops, steps (n + 1) s = .next t ∧ steps (n + 1) s' = .next t' ∧ t.sameRegisters t' ∧ t.sameLine t' ∧
      t.popWord = t'.popWord ∧ t.script = t'.script ∧ t.trace = s.trace ++ ops ∧ t'.trace = s'.trace ++ ops

/-- R161, R244, R216: from SET_OUTPUT in flight on, left to itself, the line is driven low until SET_INPUT, at least 20
milliseconds of ghost time later, and then released. The ghost clock is log 17; what counts as one step, logs 2 and 3. -/
def Obligations.WakePulseLastsTwentyMs : Prop :=
  ∀ s : State, Inv s → s.inputs = [] → s.popWord = some 0x100 →
    ∃ t1 t2 t3 t4 t5, steps 1 s = .next t1 ∧ steps 2 s = .next t2 ∧ steps 3 s = .next t3 ∧ steps 4 s = .next t4 ∧
      steps 5 s = .next t5 ∧ t1.drivenLevel = some false ∧ t2.drivenLevel = some false ∧ t3.drivenLevel = some false ∧
      t4.drivenLevel = some false ∧ t5.drivenLevel = none ∧ t1.clock + 20000000 ≤ t4.clock

/-- R241, R147: a poll lasts at least 2 microseconds and at most T_JIT and T_OVH more, and ends with the answer at the port.
The ghost clock is log 17; what counts as one step, logs 2 and 3. -/
def Obligations.PollLasts : Prop :=
  ∀ s : State, Inv s → s.inputs = [] → s.popWord = some 0x502 →
    ∃ t, steps 3 s = .next t ∧ t.micro = .answered ∧ t.popWord = none ∧ s.sameRegisters t ∧
      s.clock + 2000 ≤ t.clock ∧ t.clock ≤ s.clock + 2000 + Config.tJit + Config.tOvh

/-- R103, U6: no step is refused, and a step without the test seam stops only on a code or a word that means nothing (logs 13, 14)
or, in P5B, on an index above 40 (log 8). -/
def Obligations.StopsOnlyOnMeaningless : Prop :=
  ∀ s : State,
    (∀ r, step s ≠ .refused r) ∧
    ((∀ e ∈ s.inputs, e.ofAgent = true) → ∀ f, step s = .fault f →
      (f = .reservedPhase ∧ s.popWord = none ∧ 11 ≤ s.phase.toNat) ∨
      (f = .reservedPop ∧ ∃ w, s.popWord = some w ∧ w.toNat / 256 = 7) ∨
      (f = .illFormed ∧ ∃ w, s.popWord = some w ∧ w.toNat / 256 ≤ 4 ∧ w.toNat % 256 ≠ 0) ∨
      (f = .foreignWait ∧ ∃ w, s.popWord = some w ∧
        ((w.toNat / 256 = 5 ∧ w.toNat % 256 ≠ 2) ∨ (w.toNat / 256 = 6 ∧ w.toNat % 256 ≠ 20))) ∨
      (f = .sampleIndex ∧ s.popWord = none ∧ s.phase = 6 ∧ 40 < s.idx.toNat))
end

