-- ==== Sys2Proof/Laws/State.lean ====
section
/-! SUPPORT. One lemma per field of State and update of Machine/Ops.lean, each true by unfolding the update once. -/

namespace Sys2Proof.Machine

/-! ### A port operation is issued (R148). -/

@[simp] theorem State.issue_phase (s : State) (w : PopWord) (m : Micro) : (s.issue w m).phase = s.phase := rfl
@[simp] theorem State.issue_idx (s : State) (w : PopWord) (m : Micro) : (s.issue w m).idx = s.idx := rfl
@[simp] theorem State.issue_poll (s : State) (w : PopWord) (m : Micro) : (s.issue w m).poll = s.poll := rfl
@[simp] theorem State.issue_sample (s : State) (w : PopWord) (m : Micro) : (s.issue w m).sample = s.sample := rfl
@[simp] theorem State.issue_bits (s : State) (w : PopWord) (m : Micro) : (s.issue w m).bits = s.bits := rfl
@[simp] theorem State.issue_humRaw (s : State) (w : PopWord) (m : Micro) : (s.issue w m).humRaw = s.humRaw := rfl
@[simp] theorem State.issue_tempRaw (s : State) (w : PopWord) (m : Micro) : (s.issue w m).tempRaw = s.tempRaw := rfl
@[simp] theorem State.issue_chkRx (s : State) (w : PopWord) (m : Micro) : (s.issue w m).chkRx = s.chkRx := rfl
@[simp] theorem State.issue_chkCalc (s : State) (w : PopWord) (m : Micro) : (s.issue w m).chkCalc = s.chkCalc := rfl
@[simp] theorem State.issue_humX10 (s : State) (w : PopWord) (m : Micro) : (s.issue w m).humX10 = s.humX10 := rfl
@[simp] theorem State.issue_tempX10 (s : State) (w : PopWord) (m : Micro) : (s.issue w m).tempX10 = s.tempX10 := rfl
@[simp] theorem State.issue_tempNeg (s : State) (w : PopWord) (m : Micro) : (s.issue w m).tempNeg = s.tempNeg := rfl
@[simp] theorem State.issue_outcome (s : State) (w : PopWord) (m : Micro) : (s.issue w m).outcome = s.outcome := rfl
@[simp] theorem State.issue_busy (s : State) (w : PopWord) (m : Micro) : (s.issue w m).busy = s.busy := rfl
@[simp] theorem State.issue_done (s : State) (w : PopWord) (m : Micro) : (s.issue w m).done = s.done := rfl
@[simp] theorem State.issue_lineOe (s : State) (w : PopWord) (m : Micro) : (s.issue w m).lineOe = s.lineOe := rfl
@[simp] theorem State.issue_lineOut (s : State) (w : PopWord) (m : Micro) : (s.issue w m).lineOut = s.lineOut := rfl
@[simp] theorem State.issue_popWord (s : State) (w : PopWord) (m : Micro) : (s.issue w m).popWord = some w := rfl
@[simp] theorem State.issue_popRdata (s : State) (w : PopWord) (m : Micro) : (s.issue w m).popRdata = s.popRdata := rfl
@[simp] theorem State.issue_micro (s : State) (w : PopWord) (m : Micro) : (s.issue w m).micro = m := rfl
@[simp] theorem State.issue_inputs (s : State) (w : PopWord) (m : Micro) : (s.issue w m).inputs = s.inputs := rfl
@[simp] theorem State.issue_script (s : State) (w : PopWord) (m : Micro) : (s.issue w m).script = s.script := rfl
@[simp] theorem State.issue_hostData (s : State) (w : PopWord) (m : Micro) : (s.issue w m).hostData = s.hostData := rfl
@[simp] theorem State.issue_trace (s : State) (w : PopWord) (m : Micro) : (s.issue w m).trace = s.trace ++ [w] := rfl
@[simp] theorem State.issue_draws (s : State) (w : PopWord) (m : Micro) : (s.issue w m).draws = s.draws := rfl
@[simp] theorem State.issue_clock (s : State) (w : PopWord) (m : Micro) : (s.issue w m).clock = s.clock := rfl

/-! ### The sequencer moves to a phase (R9). -/

@[simp] theorem State.goto_phase (s : State) (p : PhaseCode) : (s.goto p).phase = p := rfl
@[simp] theorem State.goto_idx (s : State) (p : PhaseCode) : (s.goto p).idx = s.idx := rfl
@[simp] theorem State.goto_poll (s : State) (p : PhaseCode) : (s.goto p).poll = s.poll := rfl
@[simp] theorem State.goto_sample (s : State) (p : PhaseCode) : (s.goto p).sample = s.sample := rfl
@[simp] theorem State.goto_bits (s : State) (p : PhaseCode) : (s.goto p).bits = s.bits := rfl
@[simp] theorem State.goto_humRaw (s : State) (p : PhaseCode) : (s.goto p).humRaw = s.humRaw := rfl
@[simp] theorem State.goto_tempRaw (s : State) (p : PhaseCode) : (s.goto p).tempRaw = s.tempRaw := rfl
@[simp] theorem State.goto_chkRx (s : State) (p : PhaseCode) : (s.goto p).chkRx = s.chkRx := rfl
@[simp] theorem State.goto_chkCalc (s : State) (p : PhaseCode) : (s.goto p).chkCalc = s.chkCalc := rfl
@[simp] theorem State.goto_humX10 (s : State) (p : PhaseCode) : (s.goto p).humX10 = s.humX10 := rfl
@[simp] theorem State.goto_tempX10 (s : State) (p : PhaseCode) : (s.goto p).tempX10 = s.tempX10 := rfl
@[simp] theorem State.goto_tempNeg (s : State) (p : PhaseCode) : (s.goto p).tempNeg = s.tempNeg := rfl
@[simp] theorem State.goto_outcome (s : State) (p : PhaseCode) : (s.goto p).outcome = s.outcome := rfl
@[simp] theorem State.goto_busy (s : State) (p : PhaseCode) : (s.goto p).busy = s.busy := rfl
@[simp] theorem State.goto_done (s : State) (p : PhaseCode) : (s.goto p).done = s.done := rfl
@[simp] theorem State.goto_lineOe (s : State) (p : PhaseCode) : (s.goto p).lineOe = s.lineOe := rfl
@[simp] theorem State.goto_lineOut (s : State) (p : PhaseCode) : (s.goto p).lineOut = s.lineOut := rfl
@[simp] theorem State.goto_popWord (s : State) (p : PhaseCode) : (s.goto p).popWord = s.popWord := rfl
@[simp] theorem State.goto_popRdata (s : State) (p : PhaseCode) : (s.goto p).popRdata = s.popRdata := rfl
@[simp] theorem State.goto_micro (s : State) (p : PhaseCode) : (s.goto p).micro = .enter := rfl
@[simp] theorem State.goto_inputs (s : State) (p : PhaseCode) : (s.goto p).inputs = s.inputs := rfl
@[simp] theorem State.goto_script (s : State) (p : PhaseCode) : (s.goto p).script = s.script := rfl
@[simp] theorem State.goto_hostData (s : State) (p : PhaseCode) : (s.goto p).hostData = s.hostData := rfl
@[simp] theorem State.goto_trace (s : State) (p : PhaseCode) : (s.goto p).trace = s.trace := rfl
@[simp] theorem State.goto_draws (s : State) (p : PhaseCode) : (s.goto p).draws = s.draws := rfl
@[simp] theorem State.goto_clock (s : State) (p : PhaseCode) : (s.goto p).clock = s.clock := rfl

/-! ### A poll begins (R147). -/

@[simp] theorem State.tick_phase (s : State) : (s.tick).phase = s.phase := rfl
@[simp] theorem State.tick_idx (s : State) : (s.tick).idx = s.idx := rfl
@[simp] theorem State.tick_poll (s : State) : (s.tick).poll = s.poll + 1 := rfl
@[simp] theorem State.tick_sample (s : State) : (s.tick).sample = s.sample := rfl
@[simp] theorem State.tick_bits (s : State) : (s.tick).bits = s.bits := rfl
@[simp] theorem State.tick_humRaw (s : State) : (s.tick).humRaw = s.humRaw := rfl
@[simp] theorem State.tick_tempRaw (s : State) : (s.tick).tempRaw = s.tempRaw := rfl
@[simp] theorem State.tick_chkRx (s : State) : (s.tick).chkRx = s.chkRx := rfl
@[simp] theorem State.tick_chkCalc (s : State) : (s.tick).chkCalc = s.chkCalc := rfl
@[simp] theorem State.tick_humX10 (s : State) : (s.tick).humX10 = s.humX10 := rfl
@[simp] theorem State.tick_tempX10 (s : State) : (s.tick).tempX10 = s.tempX10 := rfl
@[simp] theorem State.tick_tempNeg (s : State) : (s.tick).tempNeg = s.tempNeg := rfl
@[simp] theorem State.tick_outcome (s : State) : (s.tick).outcome = s.outcome := rfl
@[simp] theorem State.tick_busy (s : State) : (s.tick).busy = s.busy := rfl
@[simp] theorem State.tick_done (s : State) : (s.tick).done = s.done := rfl
@[simp] theorem State.tick_lineOe (s : State) : (s.tick).lineOe = s.lineOe := rfl
@[simp] theorem State.tick_lineOut (s : State) : (s.tick).lineOut = s.lineOut := rfl
@[simp] theorem State.tick_popWord (s : State) : (s.tick).popWord = some Pop.tick := rfl
@[simp] theorem State.tick_popRdata (s : State) : (s.tick).popRdata = s.popRdata := rfl
@[simp] theorem State.tick_micro (s : State) : (s.tick).micro = .ticked := rfl
@[simp] theorem State.tick_inputs (s : State) : (s.tick).inputs = s.inputs := rfl
@[simp] theorem State.tick_script (s : State) : (s.tick).script = s.script := rfl
@[simp] theorem State.tick_hostData (s : State) : (s.tick).hostData = s.hostData := rfl
@[simp] theorem State.tick_trace (s : State) : (s.tick).trace = s.trace ++ [Pop.tick] := rfl
@[simp] theorem State.tick_draws (s : State) : (s.tick).draws = s.draws := rfl
@[simp] theorem State.tick_clock (s : State) : (s.tick).clock = s.clock := rfl

/-! ### The error entry (R207). -/

@[simp] theorem State.raiseError_phase (s : State) (k : ProtocolError) : (s.raiseError k).phase = Phase.idle := rfl
@[simp] theorem State.raiseError_idx (s : State) (k : ProtocolError) : (s.raiseError k).idx = s.idx := rfl
@[simp] theorem State.raiseError_poll (s : State) (k : ProtocolError) : (s.raiseError k).poll = s.poll := rfl
@[simp] theorem State.raiseError_sample (s : State) (k : ProtocolError) : (s.raiseError k).sample = s.sample := rfl
@[simp] theorem State.raiseError_bits (s : State) (k : ProtocolError) : (s.raiseError k).bits = s.bits := rfl
@[simp] theorem State.raiseError_humRaw (s : State) (k : ProtocolError) : (s.raiseError k).humRaw = s.humRaw := rfl
@[simp] theorem State.raiseError_tempRaw (s : State) (k : ProtocolError) : (s.raiseError k).tempRaw = s.tempRaw := rfl
@[simp] theorem State.raiseError_chkRx (s : State) (k : ProtocolError) : (s.raiseError k).chkRx = s.chkRx := rfl
@[simp] theorem State.raiseError_chkCalc (s : State) (k : ProtocolError) : (s.raiseError k).chkCalc = s.chkCalc := rfl
@[simp] theorem State.raiseError_humX10 (s : State) (k : ProtocolError) : (s.raiseError k).humX10 = 0 := rfl
@[simp] theorem State.raiseError_tempX10 (s : State) (k : ProtocolError) : (s.raiseError k).tempX10 = 0 := rfl
@[simp] theorem State.raiseError_tempNeg (s : State) (k : ProtocolError) : (s.raiseError k).tempNeg = false := rfl
@[simp] theorem State.raiseError_outcome (s : State) (k : ProtocolError) : (s.raiseError k).outcome = k.code := rfl
@[simp] theorem State.raiseError_busy (s : State) (k : ProtocolError) : (s.raiseError k).busy = false := rfl
@[simp] theorem State.raiseError_done (s : State) (k : ProtocolError) : (s.raiseError k).done = true := rfl
@[simp] theorem State.raiseError_lineOe (s : State) (k : ProtocolError) : (s.raiseError k).lineOe = s.lineOe := rfl
@[simp] theorem State.raiseError_lineOut (s : State) (k : ProtocolError) : (s.raiseError k).lineOut = s.lineOut := rfl
@[simp] theorem State.raiseError_popWord (s : State) (k : ProtocolError) : (s.raiseError k).popWord = s.popWord := rfl
@[simp] theorem State.raiseError_popRdata (s : State) (k : ProtocolError) : (s.raiseError k).popRdata = s.popRdata := rfl
@[simp] theorem State.raiseError_micro (s : State) (k : ProtocolError) : (s.raiseError k).micro = .enter := rfl
@[simp] theorem State.raiseError_inputs (s : State) (k : ProtocolError) : (s.raiseError k).inputs = s.inputs := rfl
@[simp] theorem State.raiseError_script (s : State) (k : ProtocolError) : (s.raiseError k).script = s.script := rfl
@[simp] theorem State.raiseError_hostData (s : State) (k : ProtocolError) : (s.raiseError k).hostData = s.hostData := rfl
@[simp] theorem State.raiseError_trace (s : State) (k : ProtocolError) : (s.raiseError k).trace = s.trace := rfl
@[simp] theorem State.raiseError_draws (s : State) (k : ProtocolError) : (s.raiseError k).draws = s.draws := rfl
@[simp] theorem State.raiseError_clock (s : State) (k : ProtocolError) : (s.raiseError k).clock = s.clock := rfl

/-! ### Complete() (R134). -/

@[simp] theorem State.complete_phase (s : State) : (s.complete).phase = Phase.idle := rfl
@[simp] theorem State.complete_idx (s : State) : (s.complete).idx = s.idx := rfl
@[simp] theorem State.complete_poll (s : State) : (s.complete).poll = s.poll := rfl
@[simp] theorem State.complete_sample (s : State) : (s.complete).sample = s.sample := rfl
@[simp] theorem State.complete_bits (s : State) : (s.complete).bits = s.bits := rfl
@[simp] theorem State.complete_humRaw (s : State) : (s.complete).humRaw = s.humRaw := rfl
@[simp] theorem State.complete_tempRaw (s : State) : (s.complete).tempRaw = s.tempRaw := rfl
@[simp] theorem State.complete_chkRx (s : State) : (s.complete).chkRx = s.chkRx := rfl
@[simp] theorem State.complete_chkCalc (s : State) : (s.complete).chkCalc = s.chkCalc := rfl
@[simp] theorem State.complete_humX10 (s : State) : (s.complete).humX10 = s.humX10 := rfl
@[simp] theorem State.complete_tempX10 (s : State) : (s.complete).tempX10 = s.tempX10 := rfl
@[simp] theorem State.complete_tempNeg (s : State) : (s.complete).tempNeg = s.tempNeg := rfl
@[simp] theorem State.complete_outcome (s : State) : (s.complete).outcome = ProtocolOutcome.success.code := rfl
@[simp] theorem State.complete_busy (s : State) : (s.complete).busy = false := rfl
@[simp] theorem State.complete_done (s : State) : (s.complete).done = true := rfl
@[simp] theorem State.complete_lineOe (s : State) : (s.complete).lineOe = s.lineOe := rfl
@[simp] theorem State.complete_lineOut (s : State) : (s.complete).lineOut = s.lineOut := rfl
@[simp] theorem State.complete_popWord (s : State) : (s.complete).popWord = s.popWord := rfl
@[simp] theorem State.complete_popRdata (s : State) : (s.complete).popRdata = s.popRdata := rfl
@[simp] theorem State.complete_micro (s : State) : (s.complete).micro = .enter := rfl
@[simp] theorem State.complete_inputs (s : State) : (s.complete).inputs = s.inputs := rfl
@[simp] theorem State.complete_script (s : State) : (s.complete).script = s.script := rfl
@[simp] theorem State.complete_hostData (s : State) : (s.complete).hostData = s.hostData := rfl
@[simp] theorem State.complete_trace (s : State) : (s.complete).trace = s.trace := rfl
@[simp] theorem State.complete_draws (s : State) : (s.complete).draws = s.draws := rfl
@[simp] theorem State.complete_clock (s : State) : (s.complete).clock = s.clock := rfl

/-! ### START accepted (R131). -/

@[simp] theorem State.startCall_phase (s : State) : (s.startCall).phase = Phase.idleWait := rfl
@[simp] theorem State.startCall_idx (s : State) : (s.startCall).idx = 0 := rfl
@[simp] theorem State.startCall_poll (s : State) : (s.startCall).poll = 0 := rfl
@[simp] theorem State.startCall_sample (s : State) : (s.startCall).sample = [] := rfl
@[simp] theorem State.startCall_bits (s : State) : (s.startCall).bits = 0 := rfl
@[simp] theorem State.startCall_humRaw (s : State) : (s.startCall).humRaw = 0 := rfl
@[simp] theorem State.startCall_tempRaw (s : State) : (s.startCall).tempRaw = 0 := rfl
@[simp] theorem State.startCall_chkRx (s : State) : (s.startCall).chkRx = 0 := rfl
@[simp] theorem State.startCall_chkCalc (s : State) : (s.startCall).chkCalc = 0 := rfl
@[simp] theorem State.startCall_humX10 (s : State) : (s.startCall).humX10 = 0 := rfl
@[simp] theorem State.startCall_tempX10 (s : State) : (s.startCall).tempX10 = 0 := rfl
@[simp] theorem State.startCall_tempNeg (s : State) : (s.startCall).tempNeg = false := rfl
@[simp] theorem State.startCall_outcome (s : State) : (s.startCall).outcome = outcomeNone := rfl
@[simp] theorem State.startCall_busy (s : State) : (s.startCall).busy = true := rfl
@[simp] theorem State.startCall_done (s : State) : (s.startCall).done = false := rfl
@[simp] theorem State.startCall_lineOe (s : State) : (s.startCall).lineOe = s.lineOe := rfl
@[simp] theorem State.startCall_lineOut (s : State) : (s.startCall).lineOut = s.lineOut := rfl
@[simp] theorem State.startCall_popWord (s : State) : (s.startCall).popWord = s.popWord := rfl
@[simp] theorem State.startCall_popRdata (s : State) : (s.startCall).popRdata = s.popRdata := rfl
@[simp] theorem State.startCall_micro (s : State) : (s.startCall).micro = .enter := rfl
@[simp] theorem State.startCall_inputs (s : State) : (s.startCall).inputs = s.inputs := rfl
@[simp] theorem State.startCall_script (s : State) : (s.startCall).script = s.script := rfl
@[simp] theorem State.startCall_hostData (s : State) : (s.startCall).hostData = s.hostData := rfl
@[simp] theorem State.startCall_trace (s : State) : (s.startCall).trace = s.trace := rfl
@[simp] theorem State.startCall_draws (s : State) : (s.startCall).draws = s.draws := rfl
@[simp] theorem State.startCall_clock (s : State) : (s.startCall).clock = s.clock := rfl

/-! ### Ghost time passes (R244). -/

@[simp] theorem State.pass_phase (s : State) (ns : Nat) : (s.pass ns).phase = s.phase := rfl
@[simp] theorem State.pass_idx (s : State) (ns : Nat) : (s.pass ns).idx = s.idx := rfl
@[simp] theorem State.pass_poll (s : State) (ns : Nat) : (s.pass ns).poll = s.poll := rfl
@[simp] theorem State.pass_sample (s : State) (ns : Nat) : (s.pass ns).sample = s.sample := rfl
@[simp] theorem State.pass_bits (s : State) (ns : Nat) : (s.pass ns).bits = s.bits := rfl
@[simp] theorem State.pass_humRaw (s : State) (ns : Nat) : (s.pass ns).humRaw = s.humRaw := rfl
@[simp] theorem State.pass_tempRaw (s : State) (ns : Nat) : (s.pass ns).tempRaw = s.tempRaw := rfl
@[simp] theorem State.pass_chkRx (s : State) (ns : Nat) : (s.pass ns).chkRx = s.chkRx := rfl
@[simp] theorem State.pass_chkCalc (s : State) (ns : Nat) : (s.pass ns).chkCalc = s.chkCalc := rfl
@[simp] theorem State.pass_humX10 (s : State) (ns : Nat) : (s.pass ns).humX10 = s.humX10 := rfl
@[simp] theorem State.pass_tempX10 (s : State) (ns : Nat) : (s.pass ns).tempX10 = s.tempX10 := rfl
@[simp] theorem State.pass_tempNeg (s : State) (ns : Nat) : (s.pass ns).tempNeg = s.tempNeg := rfl
@[simp] theorem State.pass_outcome (s : State) (ns : Nat) : (s.pass ns).outcome = s.outcome := rfl
@[simp] theorem State.pass_busy (s : State) (ns : Nat) : (s.pass ns).busy = s.busy := rfl
@[simp] theorem State.pass_done (s : State) (ns : Nat) : (s.pass ns).done = s.done := rfl
@[simp] theorem State.pass_lineOe (s : State) (ns : Nat) : (s.pass ns).lineOe = s.lineOe := rfl
@[simp] theorem State.pass_lineOut (s : State) (ns : Nat) : (s.pass ns).lineOut = s.lineOut := rfl
@[simp] theorem State.pass_popWord (s : State) (ns : Nat) : (s.pass ns).popWord = s.popWord := rfl
@[simp] theorem State.pass_popRdata (s : State) (ns : Nat) : (s.pass ns).popRdata = s.popRdata := rfl
@[simp] theorem State.pass_micro (s : State) (ns : Nat) : (s.pass ns).micro = s.micro := rfl
@[simp] theorem State.pass_inputs (s : State) (ns : Nat) : (s.pass ns).inputs = s.inputs := rfl
@[simp] theorem State.pass_script (s : State) (ns : Nat) : (s.pass ns).script = s.script := rfl
@[simp] theorem State.pass_hostData (s : State) (ns : Nat) : (s.pass ns).hostData = s.hostData := rfl
@[simp] theorem State.pass_trace (s : State) (ns : Nat) : (s.pass ns).trace = s.trace := rfl
@[simp] theorem State.pass_draws (s : State) (ns : Nat) : (s.pass ns).draws = s.draws + 1 := rfl
@[simp] theorem State.pass_clock (s : State) (ns : Nat) : (s.pass ns).clock = s.clock + ns := rfl

/-! ### The fields are loaded (R181). -/

@[simp] theorem State.loadFields_phase (s : State) (h t : Half) (c : Byte) : (s.loadFields h t c).phase = s.phase := rfl
@[simp] theorem State.loadFields_idx (s : State) (h t : Half) (c : Byte) : (s.loadFields h t c).idx = s.idx := rfl
@[simp] theorem State.loadFields_poll (s : State) (h t : Half) (c : Byte) : (s.loadFields h t c).poll = s.poll := rfl
@[simp] theorem State.loadFields_sample (s : State) (h t : Half) (c : Byte) : (s.loadFields h t c).sample = s.sample := rfl
@[simp] theorem State.loadFields_bits (s : State) (h t : Half) (c : Byte) : (s.loadFields h t c).bits = s.bits := rfl
@[simp] theorem State.loadFields_humRaw (s : State) (h t : Half) (c : Byte) : (s.loadFields h t c).humRaw = h := rfl
@[simp] theorem State.loadFields_tempRaw (s : State) (h t : Half) (c : Byte) : (s.loadFields h t c).tempRaw = t := rfl
@[simp] theorem State.loadFields_chkRx (s : State) (h t : Half) (c : Byte) : (s.loadFields h t c).chkRx = c := rfl
@[simp] theorem State.loadFields_chkCalc (s : State) (h t : Half) (c : Byte) : (s.loadFields h t c).chkCalc = s.chkCalc := rfl
@[simp] theorem State.loadFields_humX10 (s : State) (h t : Half) (c : Byte) : (s.loadFields h t c).humX10 = s.humX10 := rfl
@[simp] theorem State.loadFields_tempX10 (s : State) (h t : Half) (c : Byte) : (s.loadFields h t c).tempX10 = s.tempX10 := rfl
@[simp] theorem State.loadFields_tempNeg (s : State) (h t : Half) (c : Byte) : (s.loadFields h t c).tempNeg = s.tempNeg := rfl
@[simp] theorem State.loadFields_outcome (s : State) (h t : Half) (c : Byte) : (s.loadFields h t c).outcome = s.outcome := rfl
@[simp] theorem State.loadFields_busy (s : State) (h t : Half) (c : Byte) : (s.loadFields h t c).busy = s.busy := rfl
@[simp] theorem State.loadFields_done (s : State) (h t : Half) (c : Byte) : (s.loadFields h t c).done = s.done := rfl
@[simp] theorem State.loadFields_lineOe (s : State) (h t : Half) (c : Byte) : (s.loadFields h t c).lineOe = s.lineOe := rfl
@[simp] theorem State.loadFields_lineOut (s : State) (h t : Half) (c : Byte) : (s.loadFields h t c).lineOut = s.lineOut := rfl
@[simp] theorem State.loadFields_popWord (s : State) (h t : Half) (c : Byte) : (s.loadFields h t c).popWord = s.popWord := rfl
@[simp] theorem State.loadFields_popRdata (s : State) (h t : Half) (c : Byte) : (s.loadFields h t c).popRdata = s.popRdata := rfl
@[simp] theorem State.loadFields_micro (s : State) (h t : Half) (c : Byte) : (s.loadFields h t c).micro = s.micro := rfl
@[simp] theorem State.loadFields_inputs (s : State) (h t : Half) (c : Byte) : (s.loadFields h t c).inputs = s.inputs := rfl
@[simp] theorem State.loadFields_script (s : State) (h t : Half) (c : Byte) : (s.loadFields h t c).script = s.script := rfl
@[simp] theorem State.loadFields_hostData (s : State) (h t : Half) (c : Byte) : (s.loadFields h t c).hostData = s.hostData := rfl
@[simp] theorem State.loadFields_trace (s : State) (h t : Half) (c : Byte) : (s.loadFields h t c).trace = s.trace := rfl
@[simp] theorem State.loadFields_draws (s : State) (h t : Half) (c : Byte) : (s.loadFields h t c).draws = s.draws := rfl
@[simp] theorem State.loadFields_clock (s : State) (h t : Half) (c : Byte) : (s.loadFields h t c).clock = s.clock := rfl

/-! ### The humidity half of P8 (R182). -/

@[simp] theorem State.convertHum_phase (s : State) (h : Half) : (s.convertHum h).phase = s.phase := rfl
@[simp] theorem State.convertHum_idx (s : State) (h : Half) : (s.convertHum h).idx = s.idx := rfl
@[simp] theorem State.convertHum_poll (s : State) (h : Half) : (s.convertHum h).poll = s.poll := rfl
@[simp] theorem State.convertHum_sample (s : State) (h : Half) : (s.convertHum h).sample = s.sample := rfl
@[simp] theorem State.convertHum_bits (s : State) (h : Half) : (s.convertHum h).bits = s.bits := rfl
@[simp] theorem State.convertHum_humRaw (s : State) (h : Half) : (s.convertHum h).humRaw = s.humRaw := rfl
@[simp] theorem State.convertHum_tempRaw (s : State) (h : Half) : (s.convertHum h).tempRaw = s.tempRaw := rfl
@[simp] theorem State.convertHum_chkRx (s : State) (h : Half) : (s.convertHum h).chkRx = s.chkRx := rfl
@[simp] theorem State.convertHum_chkCalc (s : State) (h : Half) : (s.convertHum h).chkCalc = s.chkCalc := rfl
@[simp] theorem State.convertHum_humX10 (s : State) (h : Half) : (s.convertHum h).humX10 = humValue h := rfl
@[simp] theorem State.convertHum_tempX10 (s : State) (h : Half) : (s.convertHum h).tempX10 = s.tempX10 := rfl
@[simp] theorem State.convertHum_tempNeg (s : State) (h : Half) : (s.convertHum h).tempNeg = s.tempNeg := rfl
@[simp] theorem State.convertHum_outcome (s : State) (h : Half) : (s.convertHum h).outcome = s.outcome := rfl
@[simp] theorem State.convertHum_busy (s : State) (h : Half) : (s.convertHum h).busy = s.busy := rfl
@[simp] theorem State.convertHum_done (s : State) (h : Half) : (s.convertHum h).done = s.done := rfl
@[simp] theorem State.convertHum_lineOe (s : State) (h : Half) : (s.convertHum h).lineOe = s.lineOe := rfl
@[simp] theorem State.convertHum_lineOut (s : State) (h : Half) : (s.convertHum h).lineOut = s.lineOut := rfl
@[simp] theorem State.convertHum_popWord (s : State) (h : Half) : (s.convertHum h).popWord = s.popWord := rfl
@[simp] theorem State.convertHum_popRdata (s : State) (h : Half) : (s.convertHum h).popRdata = s.popRdata := rfl
@[simp] theorem State.convertHum_micro (s : State) (h : Half) : (s.convertHum h).micro = s.micro := rfl
@[simp] theorem State.convertHum_inputs (s : State) (h : Half) : (s.convertHum h).inputs = s.inputs := rfl
@[simp] theorem State.convertHum_script (s : State) (h : Half) : (s.convertHum h).script = s.script := rfl
@[simp] theorem State.convertHum_hostData (s : State) (h : Half) : (s.convertHum h).hostData = s.hostData := rfl
@[simp] theorem State.convertHum_trace (s : State) (h : Half) : (s.convertHum h).trace = s.trace := rfl
@[simp] theorem State.convertHum_draws (s : State) (h : Half) : (s.convertHum h).draws = s.draws := rfl
@[simp] theorem State.convertHum_clock (s : State) (h : Half) : (s.convertHum h).clock = s.clock := rfl

/-! ### The temperature half of P8 (R183). -/

@[simp] theorem State.convertTemp_phase (s : State) (t : Half) : (s.convertTemp t).phase = s.phase := rfl
@[simp] theorem State.convertTemp_idx (s : State) (t : Half) : (s.convertTemp t).idx = s.idx := rfl
@[simp] theorem State.convertTemp_poll (s : State) (t : Half) : (s.convertTemp t).poll = s.poll := rfl
@[simp] theorem State.convertTemp_sample (s : State) (t : Half) : (s.convertTemp t).sample = s.sample := rfl
@[simp] theorem State.convertTemp_bits (s : State) (t : Half) : (s.convertTemp t).bits = s.bits := rfl
@[simp] theorem State.convertTemp_humRaw (s : State) (t : Half) : (s.convertTemp t).humRaw = s.humRaw := rfl
@[simp] theorem State.convertTemp_tempRaw (s : State) (t : Half) : (s.convertTemp t).tempRaw = s.tempRaw := rfl
@[simp] theorem State.convertTemp_chkRx (s : State) (t : Half) : (s.convertTemp t).chkRx = s.chkRx := rfl
@[simp] theorem State.convertTemp_chkCalc (s : State) (t : Half) : (s.convertTemp t).chkCalc = s.chkCalc := rfl
@[simp] theorem State.convertTemp_humX10 (s : State) (t : Half) : (s.convertTemp t).humX10 = s.humX10 := rfl
@[simp] theorem State.convertTemp_tempX10 (s : State) (t : Half) : (s.convertTemp t).tempX10 = tempValue t := rfl
@[simp] theorem State.convertTemp_tempNeg (s : State) (t : Half) : (s.convertTemp t).tempNeg = tempSign t := rfl
@[simp] theorem State.convertTemp_outcome (s : State) (t : Half) : (s.convertTemp t).outcome = s.outcome := rfl
@[simp] theorem State.convertTemp_busy (s : State) (t : Half) : (s.convertTemp t).busy = s.busy := rfl
@[simp] theorem State.convertTemp_done (s : State) (t : Half) : (s.convertTemp t).done = s.done := rfl
@[simp] theorem State.convertTemp_lineOe (s : State) (t : Half) : (s.convertTemp t).lineOe = s.lineOe := rfl
@[simp] theorem State.convertTemp_lineOut (s : State) (t : Half) : (s.convertTemp t).lineOut = s.lineOut := rfl
@[simp] theorem State.convertTemp_popWord (s : State) (t : Half) : (s.convertTemp t).popWord = s.popWord := rfl
@[simp] theorem State.convertTemp_popRdata (s : State) (t : Half) : (s.convertTemp t).popRdata = s.popRdata := rfl
@[simp] theorem State.convertTemp_micro (s : State) (t : Half) : (s.convertTemp t).micro = s.micro := rfl
@[simp] theorem State.convertTemp_inputs (s : State) (t : Half) : (s.convertTemp t).inputs = s.inputs := rfl
@[simp] theorem State.convertTemp_script (s : State) (t : Half) : (s.convertTemp t).script = s.script := rfl
@[simp] theorem State.convertTemp_hostData (s : State) (t : Half) : (s.convertTemp t).hostData = s.hostData := rfl
@[simp] theorem State.convertTemp_trace (s : State) (t : Half) : (s.convertTemp t).trace = s.trace := rfl
@[simp] theorem State.convertTemp_draws (s : State) (t : Half) : (s.convertTemp t).draws = s.draws := rfl
@[simp] theorem State.convertTemp_clock (s : State) (t : Half) : (s.convertTemp t).clock = s.clock := rfl

/-! ### The checksum's computation (R190). -/

@[simp] theorem State.computeChecksum_phase (s : State) : (s.computeChecksum).phase = s.phase := rfl
@[simp] theorem State.computeChecksum_idx (s : State) : (s.computeChecksum).idx = s.idx := rfl
@[simp] theorem State.computeChecksum_poll (s : State) : (s.computeChecksum).poll = s.poll := rfl
@[simp] theorem State.computeChecksum_sample (s : State) : (s.computeChecksum).sample = s.sample := rfl
@[simp] theorem State.computeChecksum_bits (s : State) : (s.computeChecksum).bits = s.bits := rfl
@[simp] theorem State.computeChecksum_humRaw (s : State) : (s.computeChecksum).humRaw = s.humRaw := rfl
@[simp] theorem State.computeChecksum_tempRaw (s : State) : (s.computeChecksum).tempRaw = s.tempRaw := rfl
@[simp] theorem State.computeChecksum_chkRx (s : State) : (s.computeChecksum).chkRx = s.chkRx := rfl
@[simp] theorem State.computeChecksum_chkCalc (s : State) : (s.computeChecksum).chkCalc = checksum s.humRaw s.tempRaw := rfl
@[simp] theorem State.computeChecksum_humX10 (s : State) : (s.computeChecksum).humX10 = s.humX10 := rfl
@[simp] theorem State.computeChecksum_tempX10 (s : State) : (s.computeChecksum).tempX10 = s.tempX10 := rfl
@[simp] theorem State.computeChecksum_tempNeg (s : State) : (s.computeChecksum).tempNeg = s.tempNeg := rfl
@[simp] theorem State.computeChecksum_outcome (s : State) : (s.computeChecksum).outcome = s.outcome := rfl
@[simp] theorem State.computeChecksum_busy (s : State) : (s.computeChecksum).busy = s.busy := rfl
@[simp] theorem State.computeChecksum_done (s : State) : (s.computeChecksum).done = s.done := rfl
@[simp] theorem State.computeChecksum_lineOe (s : State) : (s.computeChecksum).lineOe = s.lineOe := rfl
@[simp] theorem State.computeChecksum_lineOut (s : State) : (s.computeChecksum).lineOut = s.lineOut := rfl
@[simp] theorem State.computeChecksum_popWord (s : State) : (s.computeChecksum).popWord = s.popWord := rfl
@[simp] theorem State.computeChecksum_popRdata (s : State) : (s.computeChecksum).popRdata = s.popRdata := rfl
@[simp] theorem State.computeChecksum_micro (s : State) : (s.computeChecksum).micro = s.micro := rfl
@[simp] theorem State.computeChecksum_inputs (s : State) : (s.computeChecksum).inputs = s.inputs := rfl
@[simp] theorem State.computeChecksum_script (s : State) : (s.computeChecksum).script = s.script := rfl
@[simp] theorem State.computeChecksum_hostData (s : State) : (s.computeChecksum).hostData = s.hostData := rfl
@[simp] theorem State.computeChecksum_trace (s : State) : (s.computeChecksum).trace = s.trace := rfl
@[simp] theorem State.computeChecksum_draws (s : State) : (s.computeChecksum).draws = s.draws := rfl
@[simp] theorem State.computeChecksum_clock (s : State) : (s.computeChecksum).clock = s.clock := rfl

/-! ### Reset (R45, R230). -/

@[simp] theorem State.applyReset_phase (s : State) : (s.applyReset).phase = 0 := rfl
@[simp] theorem State.applyReset_idx (s : State) : (s.applyReset).idx = 0 := rfl
@[simp] theorem State.applyReset_poll (s : State) : (s.applyReset).poll = 0 := rfl
@[simp] theorem State.applyReset_sample (s : State) : (s.applyReset).sample = [] := rfl
@[simp] theorem State.applyReset_bits (s : State) : (s.applyReset).bits = 0 := rfl
@[simp] theorem State.applyReset_humRaw (s : State) : (s.applyReset).humRaw = 0 := rfl
@[simp] theorem State.applyReset_tempRaw (s : State) : (s.applyReset).tempRaw = 0 := rfl
@[simp] theorem State.applyReset_chkRx (s : State) : (s.applyReset).chkRx = 0 := rfl
@[simp] theorem State.applyReset_chkCalc (s : State) : (s.applyReset).chkCalc = 0 := rfl
@[simp] theorem State.applyReset_humX10 (s : State) : (s.applyReset).humX10 = 0 := rfl
@[simp] theorem State.applyReset_tempX10 (s : State) : (s.applyReset).tempX10 = 0 := rfl
@[simp] theorem State.applyReset_tempNeg (s : State) : (s.applyReset).tempNeg = false := rfl
@[simp] theorem State.applyReset_outcome (s : State) : (s.applyReset).outcome = 7 := rfl
@[simp] theorem State.applyReset_busy (s : State) : (s.applyReset).busy = false := rfl
@[simp] theorem State.applyReset_done (s : State) : (s.applyReset).done = false := rfl
@[simp] theorem State.applyReset_lineOe (s : State) : (s.applyReset).lineOe = false := rfl
@[simp] theorem State.applyReset_lineOut (s : State) : (s.applyReset).lineOut = false := rfl
@[simp] theorem State.applyReset_popWord (s : State) : (s.applyReset).popWord = none := rfl
@[simp] theorem State.applyReset_popRdata (s : State) : (s.applyReset).popRdata = false := rfl
@[simp] theorem State.applyReset_micro (s : State) : (s.applyReset).micro = .enter := rfl
@[simp] theorem State.applyReset_inputs (s : State) : (s.applyReset).inputs = s.inputs := rfl
@[simp] theorem State.applyReset_script (s : State) : (s.applyReset).script = s.script := rfl
@[simp] theorem State.applyReset_hostData (s : State) : (s.applyReset).hostData = s.hostData := rfl
@[simp] theorem State.applyReset_trace (s : State) : (s.applyReset).trace = s.trace := rfl
@[simp] theorem State.applyReset_draws (s : State) : (s.applyReset).draws = s.draws := rfl
@[simp] theorem State.applyReset_clock (s : State) : (s.applyReset).clock = s.clock := rfl

/-! ### A host read (R38). -/

@[simp] theorem State.hostRead_phase (s : State) (r : HostReg) : (s.hostRead r).phase = s.phase := rfl
@[simp] theorem State.hostRead_idx (s : State) (r : HostReg) : (s.hostRead r).idx = s.idx := rfl
@[simp] theorem State.hostRead_poll (s : State) (r : HostReg) : (s.hostRead r).poll = s.poll := rfl
@[simp] theorem State.hostRead_sample (s : State) (r : HostReg) : (s.hostRead r).sample = s.sample := rfl
@[simp] theorem State.hostRead_bits (s : State) (r : HostReg) : (s.hostRead r).bits = s.bits := rfl
@[simp] theorem State.hostRead_humRaw (s : State) (r : HostReg) : (s.hostRead r).humRaw = s.humRaw := rfl
@[simp] theorem State.hostRead_tempRaw (s : State) (r : HostReg) : (s.hostRead r).tempRaw = s.tempRaw := rfl
@[simp] theorem State.hostRead_chkRx (s : State) (r : HostReg) : (s.hostRead r).chkRx = s.chkRx := rfl
@[simp] theorem State.hostRead_chkCalc (s : State) (r : HostReg) : (s.hostRead r).chkCalc = s.chkCalc := rfl
@[simp] theorem State.hostRead_humX10 (s : State) (r : HostReg) : (s.hostRead r).humX10 = s.humX10 := rfl
@[simp] theorem State.hostRead_tempX10 (s : State) (r : HostReg) : (s.hostRead r).tempX10 = s.tempX10 := rfl
@[simp] theorem State.hostRead_tempNeg (s : State) (r : HostReg) : (s.hostRead r).tempNeg = s.tempNeg := rfl
@[simp] theorem State.hostRead_outcome (s : State) (r : HostReg) : (s.hostRead r).outcome = s.outcome := rfl
@[simp] theorem State.hostRead_busy (s : State) (r : HostReg) : (s.hostRead r).busy = s.busy := rfl
@[simp] theorem State.hostRead_done (s : State) (r : HostReg) : (s.hostRead r).done = s.done := rfl
@[simp] theorem State.hostRead_lineOe (s : State) (r : HostReg) : (s.hostRead r).lineOe = s.lineOe := rfl
@[simp] theorem State.hostRead_lineOut (s : State) (r : HostReg) : (s.hostRead r).lineOut = s.lineOut := rfl
@[simp] theorem State.hostRead_popWord (s : State) (r : HostReg) : (s.hostRead r).popWord = s.popWord := rfl
@[simp] theorem State.hostRead_popRdata (s : State) (r : HostReg) : (s.hostRead r).popRdata = s.popRdata := rfl
@[simp] theorem State.hostRead_micro (s : State) (r : HostReg) : (s.hostRead r).micro = s.micro := rfl
@[simp] theorem State.hostRead_inputs (s : State) (r : HostReg) : (s.hostRead r).inputs = s.inputs := rfl
@[simp] theorem State.hostRead_script (s : State) (r : HostReg) : (s.hostRead r).script = s.script := rfl
@[simp] theorem State.hostRead_hostData (s : State) (r : HostReg) : (s.hostRead r).hostData = s.hostValue r := rfl
@[simp] theorem State.hostRead_trace (s : State) (r : HostReg) : (s.hostRead r).trace = s.trace := rfl
@[simp] theorem State.hostRead_draws (s : State) (r : HostReg) : (s.hostRead r).draws = s.draws := rfl
@[simp] theorem State.hostRead_clock (s : State) (r : HostReg) : (s.hostRead r).clock = s.clock := rfl

end Sys2Proof.Machine
end

