-- ==== Sys2Proof/Laws/Fetch.lean ====
section
/-! SUPPORT. What the fetch gives, once for each kind of word, and step by what the fetch gave. -/

namespace Sys2Proof

/-- A word that fits its format is read in the format. -/
theorem decode_of_lt {f : WordFormat} {w : Word} (h : w.toNat < 2 ^ f.width) : decode f w = decodeIn f w := by
  rw [decode, if_pos h]

/-- A word of n bits, widened, is below 2 ^ n. -/
theorem setWidth_lt {n : Nat} (v : BitVec n) (h : n ≤ 48) : (v.setWidth 48 : Word).toNat < 2 ^ n := by
  rw [BitVec.toNat_setWidth_of_le h]
  exact v.isLt

/-- A field of a widened word is the field of the word, when it lies inside it. -/
theorem field_setWidth {n : Nat} (v : BitVec n) (lo k : Nat) (hn : n ≤ 48) (h : lo + k ≤ n) :
    field (v.setWidth 48) lo k = v.extractLsb' lo k := by
  refine BitVec.eq_of_getLsbD_eq fun i hi => ?_
  simp only [field, BitVec.getLsbD_extractLsb', BitVec.getLsbD_setWidth, hi, decide_true, Bool.true_and]
  have : lo + i < 48 := by omega
  simp [this]

namespace Machine

/-- A host command byte is READ or NOCMD by its bit 0 (R101), its other bits ignored (R39). -/
theorem fetchWord_hostcmd (v : Byte) (s : State) :
    fetchWord .hostcmd (v.setWidth 48) s =
      .instr (if v.extractLsb' 0 1 = 1#1 then .read (v.extractLsb' 1 7) else .nocmd (v.extractLsb' 1 7)) s := by
  rw [fetchWord, decode_of_lt (setWidth_lt v (by decide))]
  simp only [decodeIn, decodeHostCmd, field_setWidth v 0 1 (by decide) (by decide),
    field_setWidth v 1 7 (by decide) (by decide)]
  split <;> rfl

/-- The STATUS byte is always a word of its format: bits 3 and 7 read 0 (R40). -/
theorem fetchWord_statusByte (s t : State) :
    fetchWord .hostreg (s.statusByte.setWidth 48) t =
      .instr (.status s.outcome (BitVec.ofBool (s.gate && s.tempNeg)) (BitVec.ofBool s.done) (BitVec.ofBool s.busy)) t := by
  have f (lo k : Nat) (h : lo + k ≤ 8) := field_setWidth s.statusByte lo k (by decide) h
  rw [fetchWord, decode_of_lt (setWidth_lt s.statusByte (by decide)), decodeIn, decodeHostReg, f 3 1 (by decide),
    f 7 1 (by decide), f 4 3 (by decide), f 2 1 (by decide), f 1 1 (by decide), f 0 1 (by decide), State.statusByte]
  generalize s.outcome = o
  generalize (s.gate && s.tempNeg) = n
  generalize s.done = d
  generalize s.busy = b
  have bits : ∀ (o : BitVec 3) (n d b : Bool),
      let v : Byte := 0#1 ++ o ++ 0#1 ++ BitVec.ofBool n ++ BitVec.ofBool d ++ BitVec.ofBool b
      v.extractLsb' 3 1 = 0#1 ∧ v.extractLsb' 7 1 = 0#1 ∧ v.extractLsb' 4 3 = o ∧ v.extractLsb' 2 1 = BitVec.ofBool n ∧
        v.extractLsb' 1 1 = BitVec.ofBool d ∧ v.extractLsb' 0 1 = BitVec.ofBool b := by decide
  obtain ⟨h3, h7, ho, hn, hd, hb⟩ := bits o n d b
  rw [if_pos ⟨h3, h7⟩, ho, hn, hd, hb]
  rfl

/-- Which waits carry a meaning, on numbers: op 5 only with n = 2, op 6 only with n = 20 (R103). -/
theorem waitMeant_iff (w : PopWord) :
    waitMeant w = true ↔ (w.toNat / 256 = 5 → w.toNat % 256 = 2) ∧ (w.toNat / 256 = 6 → w.toNat % 256 = 20) := by
  have hop : (w.extractLsb' 8 3).toNat = w.toNat / 256 := by
    have := w.isLt
    rw [BitVec.extractLsb'_toNat, Nat.shiftRight_eq_div_pow]
    omega
  have hn : (w.extractLsb' 0 8).toNat = w.toNat % 256 := by simp [BitVec.extractLsb'_toNat]
  have e2 : Config.tickUs.toNat = 2 := rfl
  have e20 : Config.wakeMs.toNat = 20 := rfl
  simp only [waitMeant, Bool.and_eq_true, Bool.or_eq_true, bne_iff_ne, beq_iff_eq, ne_eq, ← BitVec.toNat_inj, hop, hn, e2, e20,
    BitVec.toNat_ofNat]
  omega

/-- An operation in flight is performed, and is then done (R148). -/
theorem fetchOwn_word {s : State} {w : PopWord} {i : Instr} (h : s.popWord = some w)
    (hm : waitMeant w = true) (hd : decode .pop (w.setWidth 48) = .ok i) (hw : i.wellFormed = true) :
    fetchOwn s = .instr i { s with popWord := none } := by
  simp [fetchOwn, h, hm, fetchWord, hd, hw]

/-- A wait of another duration stops at the port (R103, U6). -/
theorem fetchOwn_foreignWait {s : State} {w : PopWord} (h : s.popWord = some w) (hm : waitMeant w = false) :
    fetchOwn s = .stop .foreignWait := by
  simp [fetchOwn, h, hm]

/-- With no operation in flight the phase operation goes on (R21). -/
theorem fetchOwn_phase {s : State} {p : PhaseCode} {i : Instr} (h : s.popWord = none) (hp : s.phase = p)
    (hd : decode .phase (p.setWidth 48) = .ok i) (hw : i.wellFormed = true) : fetchOwn s = .instr i s := by
  simp [fetchOwn, h, fetchWord, hp, hd, hw]

end Machine
end Sys2Proof
end

