-- ==== Sys2Proof/Laws/Memory.lean ====
section
/-! SUPPORT. The laws of the sample space: a read after a write, and the canonical form. -/

namespace Sys2Proof.Machine

@[simp] theorem Memory.read_nil (a : Nat) : Memory.read [] a = 0 := rfl

theorem Memory.read_cons (k : Nat) (x : Byte) (m : List Host.Cell) (a : Nat) :
    Memory.read ((k, x) :: m) a = if k = a then x else Memory.read m a := rfl

theorem Memory.read_write_same (m : List Host.Cell) (a : Nat) (v : Byte) (lo : Nat) (h : Memory.wfFrom lo m = true) :
    Memory.read (Memory.write m a v) a = v := by
  induction m generalizing lo with
  | nil =>
    simp only [Memory.write]
    split
    · rename_i hv; rw [hv]; rfl
    · simp [Memory.read_cons]
  | cons c m ih =>
    obtain ⟨k, x⟩ := c
    simp only [Memory.wfFrom, Bool.and_eq_true, decide_eq_true_eq] at h
    have above : ∀ (n : Nat) (m : List Host.Cell), Memory.wfFrom n m = true → ∀ b, b < n → Memory.read m b = 0 := by
      intro n m
      induction m generalizing n with
      | nil => intros; rfl
      | cons c m ih =>
        intro hw b hb
        obtain ⟨k, x⟩ := c
        simp only [Memory.wfFrom, Bool.and_eq_true, decide_eq_true_eq] at hw
        rw [Memory.read_cons, if_neg (by omega)]
        exact ih _ hw.2 b (by omega)
    simp only [Memory.write]
    split
    · split
      · rename_i hlt hv
        rw [Memory.read_cons, if_neg (by omega), above _ _ h.2 a (by omega), hv]; rfl
      · simp [Memory.read_cons]
    · split
      · split
        · rename_i hk hv
          rw [above _ _ h.2 a (by omega), hv]; rfl
        · simp [Memory.read_cons]
      · rw [Memory.read_cons, if_neg (by omega)]
        exact ih _ h.2

theorem Memory.read_write_other (m : List Host.Cell) (a b : Nat) (v : Byte) (hne : b ≠ a) :
    Memory.read (Memory.write m a v) b = Memory.read m b := by
  induction m with
  | nil =>
    simp only [Memory.write]
    split
    · rfl
    · rw [Memory.read_cons, if_neg (by omega)]
  | cons c m ih =>
    obtain ⟨k, x⟩ := c
    simp only [Memory.write]
    split
    · split
      · rfl
      · rw [Memory.read_cons, if_neg (by omega)]
    · split
      · rename_i hk
        split
        · rw [Memory.read_cons, if_neg (by omega)]
        · rw [Memory.read_cons, if_neg (by omega), Memory.read_cons, if_neg (by omega)]
      · by_cases hkb : k = b
        · simp [Memory.read_cons, hkb]
        · rw [Memory.read_cons, if_neg hkb, Memory.read_cons, if_neg hkb, ih]

/-- A cell below every other keeps the form. -/
theorem Memory.wfFrom_mono (m : List Host.Cell) {a b : Nat} (hab : a ≤ b) (h : Memory.wfFrom b m = true) :
    Memory.wfFrom a m = true := by
  cases m with
  | nil => rfl
  | cons c m =>
    simp only [Memory.wfFrom, Bool.and_eq_true, decide_eq_true_eq] at h ⊢
    exact ⟨⟨⟨by omega, h.1.1.2⟩, h.1.2⟩, h.2⟩

theorem Memory.wfFrom_write (m : List Host.Cell) (lo a : Nat) (v : Byte) (h : Memory.wfFrom lo m = true) (hlo : lo ≤ a)
    (ha : Memory.inSpace a = true) : Memory.wfFrom lo (Memory.write m a v) = true := by
  induction m generalizing lo with
  | nil =>
    simp only [Memory.write]
    split
    · rfl
    · rename_i hv
      simp [Memory.wfFrom, ha, hlo, hv]
  | cons c m ih =>
    obtain ⟨k, x⟩ := c
    have h0 := h
    simp only [Memory.wfFrom, Bool.and_eq_true, decide_eq_true_eq] at h
    simp only [Memory.write]
    split
    · split
      · exact h0
      · rename_i hk hv
        simp only [Memory.wfFrom, Bool.and_eq_true, decide_eq_true_eq]
        refine ⟨⟨⟨hlo, ha⟩, by simp [hv]⟩, ⟨⟨by omega, h.1.1.2⟩, h.1.2⟩, h.2⟩
    · split
      · split
        · exact Memory.wfFrom_mono m (by omega) h.2
        · rename_i hk hv
          subst hk
          simp only [Memory.wfFrom, Bool.and_eq_true, decide_eq_true_eq]
          exact ⟨⟨⟨hlo, ha⟩, by simp [hv]⟩, h.2⟩
      · simp only [Memory.wfFrom, Bool.and_eq_true, decide_eq_true_eq]
        exact ⟨h.1, ih _ h.2 (by omega)⟩

/-- Every memory operation keeps the canonical form. -/
theorem Memory.wf_write (m : List Host.Cell) (a : Nat) (v : Byte) (h : Memory.wf m = true) (ha : Memory.inSpace a = true) :
    Memory.wf (Memory.write m a v) = true :=
  Memory.wfFrom_write m 0 a v h (Nat.zero_le a) ha

theorem Memory.wf_reset : Memory.wf State.reset.sample = true := rfl

/-- A canonical memory reads 0 outside the space (R60). -/
theorem Memory.read_outside (m : List Host.Cell) (lo a : Nat) (h : Memory.wfFrom lo m = true) (ha : Config.nSamples ≤ a) :
    Memory.read m a = 0 := by
  induction m generalizing lo with
  | nil => rfl
  | cons c m ih =>
    obtain ⟨k, x⟩ := c
    simp only [Memory.wfFrom, Bool.and_eq_true, decide_eq_true_eq, Memory.inSpace] at h
    rw [Memory.read_cons, if_neg (by omega)]
    exact ih _ h.2

end Sys2Proof.Machine
end

