-- ==== Sys2Proof/Laws/Operands.lean ====
section
/-! SUPPORT. The operand forms, bit by bit: a frame's bits after a write, the classification loop, the fields assembled from a
frame, and the value conversions as numbers. -/

namespace Sys2Proof.Machine

/-! ### Bits of the frame -/

theorem bitAt_eq (f : Frame) (j : Nat) (hj : j < 41) : bitAt f j = f.getLsbD (40 - j) := by
  simp [bitAt, BitVec.getMsbD, hj]

theorem bitAt_setBit (f : Frame) (i j : Nat) (b : Bool) (hi : i < 41) (hj : j < 41) :
    bitAt (setBit f i b) j = if j = i then b else bitAt f j := by
  have hk : (1#41 <<< (40 - i)).getLsbD (40 - j) = decide (j = i) := by
    rw [BitVec.getLsbD_shiftLeft, BitVec.getLsbD_one]
    by_cases hji : j = i
    · subst hji; simp; omega
    · have : ¬(40 - j - (40 - i) = 0 ∧ ¬40 - j < 40 - i) := by omega
      by_cases h1 : 40 - j < 40 - i <;> simp [hji, h1]
      omega
  rw [bitAt_eq _ _ hj, bitAt_eq _ _ hj]
  have hm : (if i < Config.nSamples then 1#41 <<< (Config.nSamples - 1 - i) else 0#41) = 1#41 <<< (40 - i) := by
    simp [Config.nSamples, hi]
  unfold setBit
  simp only [hm]
  have hlt : 40 - j < 41 := by omega
  cases b
  · simp only [Bool.false_eq_true, if_false, BitVec.getLsbD_and, BitVec.getLsbD_not, hk, hlt, decide_true, Bool.true_and]
    by_cases hji : j = i <;> simp only [hji, decide_true, decide_false, Bool.not_true, Bool.not_false, Bool.and_false,
      Bool.and_true, if_true, if_false]
  · simp only [if_true, BitVec.getLsbD_or, hk]
    by_cases hji : j = i <;> simp only [hji, decide_true, decide_false, Bool.or_true, Bool.or_false, if_true, if_false]

/-- The classification loop's n-th stage: indices below n are classified, the others as before. -/
theorem bitAt_classify_upto (m : List Host.Cell) (f : Frame) (n j : Nat) (hn : n ≤ 41) (hj : j < 41) :
    bitAt ((List.range n).foldl (fun acc i => setBit acc i (classifyCount (Memory.read m i))) f) j =
      if j < n then classifyCount (Memory.read m j) else bitAt f j := by
  induction n with
  | zero => simp
  | succ n ih =>
    rw [List.range_succ, List.foldl_append, List.foldl_cons, List.foldl_nil,
      bitAt_setBit _ n j _ (by omega) hj, ih (by omega)]
    by_cases h : j = n
    · subst h; simp
    · by_cases h2 : j < n
      · simp [h, h2, Nat.lt_succ_of_lt h2]
      · have : ¬ j < n + 1 := by omega
        simp [h, h2, this]

/-- R180: after Classify() every BIT[j] is the classification of SAMPLE[j]. -/
theorem bitAt_classifyAll (m : List Host.Cell) (f : Frame) (j : Nat) (hj : j < 41) :
    bitAt (classifyAll m f) j = classifyCount (Memory.read m j) := by
  rw [classifyAll, bitAt_classify_upto _ _ _ _ (by decide) hj, if_pos (by exact hj)]

/-- Two frames with the same 41 bits are the same frame. -/
theorem frame_ext (f g : Frame) (h : ∀ j, j < 41 → bitAt f j = bitAt g j) : f = g := by
  apply BitVec.eq_of_getLsbD_eq
  intro i hi
  have := h (40 - i) (by omega)
  rw [bitAt_eq _ _ (by omega), bitAt_eq _ _ (by omega)] at this
  have e : 40 - (40 - i) = i := by omega
  rwa [e] at this

theorem classifyCount_iff (c : Byte) : classifyCount c = true ↔ 5 < c.toNat := by
  simp [classifyCount, Config.thresh, BitVec.lt_def]

/-! ### Fields of a frame -/

theorem assemble_upto (f : Frame) (first w n k : Nat) (hn : n ≤ w) (hk : k < w) :
    ((List.range n).foldl
      (fun acc j => acc ||| ((BitVec.ofBool (bitAt f (first + j))).setWidth w <<< (w - 1 - j))) 0#w).getLsbD k =
      (decide (w - 1 - k < n) && bitAt f (first + (w - 1 - k))) := by
  induction n with
  | zero => simp
  | succ n ih =>
    rw [List.range_succ, List.foldl_append, List.foldl_cons, List.foldl_nil, BitVec.getLsbD_or, ih (by omega),
      BitVec.getLsbD_shiftLeft]
    by_cases h : w - 1 - k = n
    · have h1 : ¬ k < w - 1 - n := by omega
      have h2 : k - (w - 1 - n) = 0 := by omega
      have h3 : 0 < w := by omega
      simp [h, hk, h1, h2, h3]
    · by_cases h2 : w - 1 - k < n
      · have h3 : w - 1 - k < n + 1 := by omega
        have h4 : k - (w - 1 - n) ≠ 0 := by omega
        have h5 : ¬ k < w - 1 - n := by omega
        have h6 : 1 ≤ k - (w - 1 - n) := by omega
        simp [h2, h3, h4, h5]
      · have h3 : ¬ w - 1 - k < n + 1 := by omega
        have h4 : k < w - 1 - n := by omega
        simp [h2, h3, h4]

/-- R93, bit by bit: bit k of a field of w bits is BIT[first + (w - 1 - k)]. -/
theorem assemble_getLsbD (f : Frame) (first w k : Nat) (hk : k < w) :
    (assemble f first w).getLsbD k = bitAt f (first + (w - 1 - k)) := by
  rw [assemble, assemble_upto f first w w k (Nat.le_refl _) hk]
  have : w - 1 - k < w := by omega
  simp [this]

/-- A field of the frame is a slice of it. -/
theorem assemble_eq_extract (f : Frame) (first w : Nat) (h : first + w ≤ 41) :
    assemble f first w = f.extractLsb' (41 - first - w) w := by
  apply BitVec.eq_of_getLsbD_eq
  intro k hk
  have e : 40 - (first + (w - 1 - k)) = 41 - first - w + k := by omega
  rw [assemble_getLsbD f first w k hk, bitAt_eq _ _ (by omega), BitVec.getLsbD_extractLsb', e]
  simp [hk]

theorem frameHum_eq_extract (f : Frame) : frameHum f = f.extractLsb' 24 16 := assemble_eq_extract f 1 16 (by decide)

theorem frameTemp_eq_extract (f : Frame) : frameTemp f = f.extractLsb' 8 16 := assemble_eq_extract f 17 16 (by decide)

theorem frameChk_eq_extract (f : Frame) : frameChk f = f.extractLsb' 0 8 := assemble_eq_extract f 33 8 (by decide)

/-! ### Values -/

theorem humValue_toNat (h : Half) : (humValue h).toNat = h.toNat % 32768 := by
  have e : Config.magMask = BitVec.ofNat 16 (2 ^ 15 - 1) := by decide
  rw [humValue, e, BitVec.toNat_and]
  simp only [BitVec.toNat_ofNat]
  exact Nat.and_two_pow_sub_one_eq_mod h.toNat 15

theorem humValue_top (h : Half) : (humValue h).getLsbD 15 = false := by
  rw [humValue, BitVec.getLsbD_and]
  have e : Config.magMask.getLsbD 15 = false := by decide
  rw [e, Bool.and_false]

theorem tempSign_iff (t : Half) : tempSign t = true ↔ 32768 ≤ t.toNat := by
  have h : t.getLsbD 15 = t.msb := by simp [BitVec.msb, BitVec.getMsbD]
  rw [tempSign, Config.signBit, h, BitVec.msb_eq_decide]
  simp

theorem tempValue_of_neg (t : Half) (h : 32768 ≤ t.toNat) :
    (tempValue t).toNat = (65536 - t.toNat % 32768) % 65536 := by
  have hs : t.getLsbD Config.signBit = true := (tempSign_iff t).2 h
  rw [tempValue, if_pos hs, BitVec.toNat_ofNat]
  have := humValue_toNat t
  rw [humValue] at this
  rw [this]

theorem tempValue_of_nonneg (t : Half) (h : t.toNat < 32768) : tempValue t = t := by
  have hs : ¬ t.getLsbD Config.signBit = true := fun hh => by have := (tempSign_iff t).1 hh; omega
  rw [tempValue, if_neg hs]

/-- R31: the pattern 0x8000 never occurs. -/
theorem tempValue_ne (t : Half) : tempValue t ≠ 0x8000 := by
  intro h
  have e : (tempValue t).toNat = 32768 := by rw [h]; rfl
  by_cases hn : 32768 ≤ t.toNat
  · rw [tempValue_of_neg t hn] at e; omega
  · rw [tempValue_of_nonneg t (by omega)] at e; omega

/-! ### The checksum -/

theorem highByte_toNat (v : Half) : (highByte v).toNat = v.toNat / 256 := by
  have := v.isLt
  simp only [highByte, BitVec.extractLsb'_toNat, Nat.shiftRight_eq_div_pow]
  omega

theorem lowByte_toNat (v : Half) : (lowByte v).toNat = v.toNat % 256 := by
  simp [lowByte, BitVec.extractLsb'_toNat]

theorem checksum_toNat (h t : Half) :
    (checksum h t).toNat = (h.toNat / 256 + h.toNat % 256 + t.toNat / 256 + t.toNat % 256) % 256 := by
  rw [checksum, BitVec.toNat_ofNat, byteSum, highByte_toNat, lowByte_toNat, highByte_toNat, lowByte_toNat]
  omega

end Sys2Proof.Machine
end

