-- ==== Sys2Proof/Laws/Ops.lean ====
section
/-! SUPPORT. For each shared operation of Machine/Ops.lean what it can do, said once. -/

namespace Sys2Proof.Machine

/-! ### The poll (R147) -/

/-- Outside a poll a poll begins: POLL is 1 and WAIT_US 2 is in flight. -/
theorem State.pollUntil_begin {s : State} {level : Level} {bound : Byte} (h : s.micro ≠ .ticked) (h' : s.micro ≠ .answered) :
    s.pollUntil level bound = .waiting { s with poll := 0 }.tick := by
  unfold State.pollUntil
  split <;> simp_all

/-- After the wait the read is issued. -/
theorem State.pollUntil_ticked {s : State} {level : Level} {bound : Byte} (h : s.micro = .ticked) :
    s.pollUntil level bound = .waiting (s.issue Pop.lineRead .answered) := by
  simp [State.pollUntil, h]

/-- The awaited answer ends the loop. -/
theorem State.pollUntil_level {s : State} {level : Level} {bound : Byte} (h : s.micro = .answered) (hv : s.popRdata = level) :
    s.pollUntil level bound = .matched s := by
  simp [State.pollUntil, h, hv]

/-- Another answer at the bound fails. -/
theorem State.pollUntil_bound {s : State} {level : Level} {bound : Byte} (h : s.micro = .answered) (hv : s.popRdata ≠ level)
    (hn : s.poll = bound) : s.pollUntil level bound = .failed s := by
  simp [State.pollUntil, h, hv, hn]

/-- Another answer below the bound begins the next poll. -/
theorem State.pollUntil_again {s : State} {level : Level} {bound : Byte} (h : s.micro = .answered) (hv : s.popRdata ≠ level)
    (hn : s.poll ≠ bound) : s.pollUntil level bound = .waiting s.tick := by
  simp [State.pollUntil, h, hv, hn]

/-- Everything a polling phase can do in one stretch. -/
theorem State.pollPhase_cases {s : State} {level : Level} {bound : Byte} {k : ProtocolError}
    {onMatch : State → Host.Outcome State Fault Refusal} :
    (s.micro ≠ .ticked ∧ s.micro ≠ .answered ∧ s.pollPhase level bound k onMatch = .next { s with poll := 0 }.tick) ∨
    (s.micro = .ticked ∧ s.pollPhase level bound k onMatch = .next (s.issue Pop.lineRead .answered)) ∨
    (s.micro = .answered ∧ s.popRdata = level ∧ s.pollPhase level bound k onMatch = onMatch s) ∨
    (s.micro = .answered ∧ s.popRdata ≠ level ∧ s.poll = bound ∧
      s.pollPhase level bound k onMatch = .next (s.raiseError k)) ∨
    (s.micro = .answered ∧ s.popRdata ≠ level ∧ s.poll ≠ bound ∧ s.pollPhase level bound k onMatch = .next s.tick) := by
  by_cases h1 : s.micro = .ticked
  · exact .inr (.inl ⟨h1, by rw [State.pollPhase, State.pollUntil_ticked h1]⟩)
  by_cases h2 : s.micro = .answered
  · by_cases h3 : s.popRdata = level
    · exact .inr (.inr (.inl ⟨h2, h3, by rw [State.pollPhase, State.pollUntil_level h2 h3]⟩))
    by_cases h4 : s.poll = bound
    · exact .inr (.inr (.inr (.inl ⟨h2, h3, h4, by rw [State.pollPhase, State.pollUntil_bound h2 h3 h4]⟩)))
    · exact .inr (.inr (.inr (.inr ⟨h2, h3, h4, by rw [State.pollPhase, State.pollUntil_again h2 h3 h4]⟩)))
  · exact .inl ⟨h1, h2, by rw [State.pollPhase, State.pollUntil_begin h1 h2]⟩

/-! ### The end of a call -/

/-- With a call running the end of call happens. -/
theorem State.ifRunning_busy {s : State} {f : State → State} (h : s.busy = true) : s.ifRunning f = f s := by
  simp [State.ifRunning, h]

/-- With no call running nothing happens (R210). -/
theorem State.ifRunning_idle {s : State} {f : State → State} (h : s.busy = false) : s.ifRunning f = s := by
  simp [State.ifRunning, h]

/-- Equal checksums complete the call (R191, R134). -/
theorem State.judge_equal {s : State} (h : s.chkCalc = s.chkRx) : s.judge = s.complete := by
  simp [State.judge, h]

/-- Unequal checksums end it with ChecksumMismatch (R191). -/
theorem State.judge_unequal {s : State} (h : s.chkCalc ≠ s.chkRx) : s.judge = s.raiseError .checksumMismatch := by
  simp [State.judge, h]

/-! ### The sample store (R173) -/

/-- A store at an index of the space. -/
theorem State.storeSample_some {s : State} {c : Byte} (h : s.idx.toNat ≤ 40) :
    s.storeSample c = some { s with sample := Memory.write s.sample s.idx.toNat c } := by
  have : Memory.inSpace s.idx.toNat = true := decide_eq_true (show s.idx.toNat < 41 by omega)
  simp [State.storeSample, this]

/-- No store outside it (R61). -/
theorem State.storeSample_none {s : State} {c : Byte} (h : 40 < s.idx.toNat) : s.storeSample c = none := by
  have : Memory.inSpace s.idx.toNat = false := decide_eq_false (show ¬ s.idx.toNat < 41 by omega)
  simp [State.storeSample, this]

/-! ### The answers (R73, R144) -/

/-- In input mode the script answers, once. -/
theorem State.answer_script {s : State} {b : Level} {rest : List Level} (h : s.lineOe = false) (hs : s.script = b :: rest) :
    s.nextAnswer = b ∧ s.scriptAfter = rest := by
  simp [State.nextAnswer, State.scriptAfter, State.drivenLevel, h, hs]

/-- Once it has run out, a free value answers. -/
theorem State.answer_free {s : State} (h : s.lineOe = false) (hs : s.script = []) :
    s.nextAnswer = Config.lineAnswer s.draws ∧ s.scriptAfter = [] := by
  simp [State.nextAnswer, State.scriptAfter, State.drivenLevel, h, hs]

/-- In output mode any value answers (U4) and the script is not used. -/
theorem State.answer_driven {s : State} (h : s.lineOe = true) :
    s.nextAnswer = Config.drivenAnswer s.draws ∧ s.scriptAfter = s.script := by
  simp [State.nextAnswer, State.scriptAfter, State.drivenLevel, h]

end Sys2Proof.Machine
end

