-- ==== Sys2Proof/Laws/PerInstr.lean ====
section
/-! SUPPORT. One lemma per instruction: its word fits its format and matches the row of the opcode table that bears its mnemonic. -/

namespace Sys2Proof.Laws

/-- A bit string of n bits, widened, fits n bits. -/
theorem widened_lt {n : Nat} (v : BitVec n) (h : n ≤ 48) : (v.setWidth 48 : Word).toNat < 2 ^ n := by
  rw [BitVec.toNat_setWidth_of_le h]
  exact v.isLt

namespace EncodedInRow

/-- The word of the instruction fits the width of its format, and some row of the table has its mnemonic, its format, and its
word under mask and pattern. -/
def Statement (i : Instr) : Prop :=
  (encode i).toNat < 2 ^ i.format.width ∧
    ∃ r ∈ opcodeTable, r.mnemonic = i.mnemonic ∧ r.format = i.format ∧ encode i &&& r.mask = r.pattern

/-- The statement from the row, once it is found. -/
theorem of_row {i : Instr} {r : Row} (hr : r ∈ opcodeTable) (hm : r.mnemonic = i.mnemonic) (hf : r.format = i.format)
    (hw : (encode i).toNat < 2 ^ i.format.width) (he : encode i &&& r.mask = r.pattern) : Statement i :=
  ⟨hw, r, hr, hm, hf, he⟩

theorem read (i : BitVec 7) : Statement (.read i) :=
  of_row (r := ⟨"READ", .hostcmd, 0x01, 0x01⟩) (by decide) rfl rfl (widened_lt _ (by decide)) (by revert i; decide)

theorem nocmd (i : BitVec 7) : Statement (.nocmd i) :=
  of_row (r := ⟨"NOCMD", .hostcmd, 0x00, 0x01⟩) (by decide) rfl rfl (widened_lt _ (by decide)) (by revert i; decide)

theorem idle : Statement (.idle) :=
  of_row (r := ⟨"IDLE", .phase, 0x0, 0xF⟩) (by decide) rfl rfl (by decide) (by decide)

theorem idleWait : Statement (.idleWait) :=
  of_row (r := ⟨"IDLE_WAIT", .phase, 0x1, 0xF⟩) (by decide) rfl rfl (by decide) (by decide)

theorem wake : Statement (.wake) :=
  of_row (r := ⟨"WAKE", .phase, 0x2, 0xF⟩) (by decide) rfl rfl (by decide) (by decide)

theorem ackStart : Statement (.ackStart) :=
  of_row (r := ⟨"ACK_START", .phase, 0x3, 0xF⟩) (by decide) rfl rfl (by decide) (by decide)

theorem ackEnd : Statement (.ackEnd) :=
  of_row (r := ⟨"ACK_END", .phase, 0x4, 0xF⟩) (by decide) rfl rfl (by decide) (by decide)

theorem sync : Statement (.sync) :=
  of_row (r := ⟨"SYNC", .phase, 0x5, 0xF⟩) (by decide) rfl rfl (by decide) (by decide)

theorem measure : Statement (.measure) :=
  of_row (r := ⟨"MEASURE", .phase, 0x6, 0xF⟩) (by decide) rfl rfl (by decide) (by decide)

theorem classify : Statement (.classify) :=
  of_row (r := ⟨"CLASSIFY", .phase, 0x7, 0xF⟩) (by decide) rfl rfl (by decide) (by decide)

theorem extract : Statement (.extract) :=
  of_row (r := ⟨"EXTRACT", .phase, 0x8, 0xF⟩) (by decide) rfl rfl (by decide) (by decide)

theorem convert : Statement (.convert) :=
  of_row (r := ⟨"CONVERT", .phase, 0x9, 0xF⟩) (by decide) rfl rfl (by decide) (by decide)

theorem verify : Statement (.verify) :=
  of_row (r := ⟨"VERIFY", .phase, 0xA, 0xF⟩) (by decide) rfl rfl (by decide) (by decide)

theorem phaseReserved11 : Statement (.phaseReserved11) :=
  of_row (r := ⟨"PHASE_RESERVED_11", .phase, 0xB, 0xF⟩) (by decide) rfl rfl (by decide) (by decide)

theorem phaseReserved12to15 (r : BitVec 2) : Statement (.phaseReserved12to15 r) :=
  of_row (r := ⟨"PHASE_RESERVED_12_15", .phase, 0xC, 0xC⟩) (by decide) rfl rfl (widened_lt _ (by decide)) (by revert r; decide)

theorem setInput (n : Byte) : Statement (.setInput n) :=
  of_row (r := ⟨"SET_INPUT", .pop, 0x000, 0x700⟩) (by decide) rfl rfl (widened_lt _ (by decide)) (by revert n; decide)

theorem setOutput (n : Byte) : Statement (.setOutput n) :=
  of_row (r := ⟨"SET_OUTPUT", .pop, 0x100, 0x700⟩) (by decide) rfl rfl (widened_lt _ (by decide)) (by revert n; decide)

theorem driveLow (n : Byte) : Statement (.driveLow n) :=
  of_row (r := ⟨"DRIVE_LOW", .pop, 0x200, 0x700⟩) (by decide) rfl rfl (widened_lt _ (by decide)) (by revert n; decide)

theorem driveHigh (n : Byte) : Statement (.driveHigh n) :=
  of_row (r := ⟨"DRIVE_HIGH", .pop, 0x300, 0x700⟩) (by decide) rfl rfl (widened_lt _ (by decide)) (by revert n; decide)

theorem lineRead (n : Byte) : Statement (.lineRead n) :=
  of_row (r := ⟨"LINE_READ", .pop, 0x400, 0x700⟩) (by decide) rfl rfl (widened_lt _ (by decide)) (by revert n; decide)

theorem waitUs (n : Byte) : Statement (.waitUs n) :=
  of_row (r := ⟨"WAIT_US", .pop, 0x500, 0x700⟩) (by decide) rfl rfl (widened_lt _ (by decide)) (by revert n; decide)

theorem waitMs (n : Byte) : Statement (.waitMs n) :=
  of_row (r := ⟨"WAIT_MS", .pop, 0x600, 0x700⟩) (by decide) rfl rfl (widened_lt _ (by decide)) (by revert n; decide)

theorem popReserved (n : Byte) : Statement (.popReserved n) :=
  of_row (r := ⟨"POP_RESERVED", .pop, 0x700, 0x700⟩) (by decide) rfl rfl (widened_lt _ (by decide)) (by revert n; decide)

theorem pulse (c : Byte) : Statement (.pulse c) :=
  of_row (r := ⟨"PULSE", .pulse, 0, 0⟩) (by decide) rfl rfl (widened_lt _ (by decide)) (BitVec.and_zero ..)

theorem frame41 (x : BitVec 1) (h t : Half) (c : Byte) : Statement (.frame41 x h t c) :=
  of_row (r := ⟨"FRAME41", .frame41, 0, 0⟩) (by decide) rfl rfl (widened_lt _ (by decide)) (BitVec.and_zero ..)

theorem field16Hum (u : BitVec 1) (v : BitVec 15) : Statement (.field16Hum u v) :=
  of_row (r := ⟨"FIELD16_HUM", .field16Hum, 0, 0⟩) (by decide) rfl rfl (widened_lt _ (by decide)) (BitVec.and_zero ..)

theorem field16Temp (s : BitVec 1) (m : BitVec 15) : Statement (.field16Temp s m) :=
  of_row (r := ⟨"FIELD16_TEMP", .field16Temp, 0, 0⟩) (by decide) rfl rfl (widened_lt _ (by decide)) (BitVec.and_zero ..)

theorem checksum8 (k : Byte) : Statement (.checksum8 k) :=
  of_row (r := ⟨"CHECKSUM8", .checksum8, 0, 0⟩) (by decide) rfl rfl (widened_lt _ (by decide)) (BitVec.and_zero ..)

theorem status (o : BitVec 3) (n d b : BitVec 1) : Statement (.status o n d b) :=
  of_row (r := ⟨"STATUS", .hostreg, 0x00, 0x88⟩) (by decide) rfl rfl (widened_lt _ (by decide)) (by revert o n d b; decide)

theorem success : Statement (.success) :=
  of_row (r := ⟨"Success", .outcome, 0, 7⟩) (by decide) rfl rfl (by decide) (by decide)

theorem busHung : Statement (.busHung) :=
  of_row (r := ⟨"BusHung", .outcome, 1, 7⟩) (by decide) rfl rfl (by decide) (by decide)

theorem notPresent : Statement (.notPresent) :=
  of_row (r := ⟨"NotPresent", .outcome, 2, 7⟩) (by decide) rfl rfl (by decide) (by decide)

theorem ackTooLong : Statement (.ackTooLong) :=
  of_row (r := ⟨"AckTooLong", .outcome, 3, 7⟩) (by decide) rfl rfl (by decide) (by decide)

theorem syncTimeout : Statement (.syncTimeout) :=
  of_row (r := ⟨"SyncTimeout", .outcome, 4, 7⟩) (by decide) rfl rfl (by decide) (by decide)

theorem dataTimeout : Statement (.dataTimeout) :=
  of_row (r := ⟨"DataTimeout", .outcome, 5, 7⟩) (by decide) rfl rfl (by decide) (by decide)

theorem checksumMismatch : Statement (.checksumMismatch) :=
  of_row (r := ⟨"ChecksumMismatch", .outcome, 6, 7⟩) (by decide) rfl rfl (by decide) (by decide)

theorem noOutcome : Statement (.noOutcome) :=
  of_row (r := ⟨"NONE", .outcome, 7, 7⟩) (by decide) rfl rfl (by decide) (by decide)

end EncodedInRow

end Sys2Proof.Laws
end

