-- ==== Sys2Proof/Laws/Safety.lean ====
section
/-! SUPPORT. Small facts about the terms of Safety.lean, cited where a step is taken apart. -/

namespace Sys2Proof.Machine

/-- No step. -/
@[simp] theorem steps_zero (s : State) : steps 0 s = .next s := rfl

/-- One step first. -/
theorem steps_succ {s t : State} {n : Nat} (h : step s = .next t) : steps (n + 1) s = steps n t := by
  unfold steps
  simp only [Host.Core.run, Sys2Proof.core, h]

/-- Some steps first. -/
theorem steps_add {s t : State} {m n : Nat} (h : steps m s = .next t) : steps (m + n) s = steps n t := by
  induction m generalizing s with
  | zero =>
    cases h
    rw [Nat.zero_add]
  | succ m ih =>
    cases hs : step s with
    | next u =>
      rw [steps_succ hs] at h
      rw [← ih h, ← steps_succ hs, Nat.add_right_comm]
    | fault r => simp [steps, Host.Core.run, Sys2Proof.core, hs] at h
    | refused r => simp [steps, Host.Core.run, Sys2Proof.core, hs] at h

/-- The line is an output only in P2 (R43). -/
theorem State.placed_output {s : State} (h : s.placed) (ho : s.lineOe = true) : s.phase = 2 := by
  have : s.phase.toNat = 2 := by
    unfold State.placed at h
    split at h <;> simp_all
  exact BitVec.eq_of_toNat_eq this

/-- PHASE is one of the eleven codes (R21). -/
theorem State.placed_range {s : State} (h : s.placed) : s.phase.toNat ≤ 10 := by
  unfold State.placed at h
  split at h <;> simp_all

/-- In a poll the word in flight is the wait's or the read's. -/
theorem State.polling_flight {s : State} {n : Nat} {w : PopWord} (h : s.polling n) (hw : s.popWord = some w) :
    w = 0x502 ∨ w = 0x400 := by
  rcases h.1 with ⟨_, y | y⟩ | ⟨_, y | y⟩ <;> rw [hw] at y <;> simp at y
  · exact .inl y
  · exact .inr y

/-- An operation done leaves the sequencer inside its poll. -/
theorem State.polling_done {s t : State} {n : Nat} (h : s.polling n) (hm : t.micro = s.micro) (hp : t.poll = s.poll)
    (hw : t.popWord = none) : t.polling n := by
  obtain ⟨h1, h2, h3⟩ := h
  refine ⟨?_, by rw [hp]; exact h2, by rw [hp]; exact h3⟩
  rcases h1 with ⟨x, _⟩ | ⟨x, _⟩
  · exact .inl ⟨by rw [hm]; exact x, .inl hw⟩
  · exact .inr ⟨by rw [hm]; exact x, .inl hw⟩

/-- A change that leaves every register but POLL alone keeps the invariant, once the new place is right. -/
theorem Inv.of_port {s t : State} (h : Inv s)
    (h1 : t.phase = s.phase) (h2 : t.idx = s.idx) (h3 : t.sample = s.sample) (h4 : t.bits = s.bits)
    (h5 : t.humRaw = s.humRaw) (h6 : t.tempRaw = s.tempRaw) (h7 : t.chkRx = s.chkRx) (h8 : t.chkCalc = s.chkCalc)
    (h9 : t.humX10 = s.humX10) (h10 : t.tempX10 = s.tempX10) (h11 : t.tempNeg = s.tempNeg) (h12 : t.outcome = s.outcome)
    (h13 : t.busy = s.busy) (h14 : t.done = s.done) (hout : t.lineOut = false) (hp : t.placed)
    (hpoll : t.poll.toNat ≤ 126) (hin : ∀ e ∈ t.inputs, e.ofAgent = true) : Inv t := by
  obtain ⟨⟨a1, a2, a3, a4, a5, a6, a7, a8, a9, a10, a11, a12⟩, ⟨b1, b2, b3, b4, b5, b6, b7, b8, b9, b10, b11⟩⟩ := h
  refine ⟨⟨?_, ?_, ?_, hout, State.placed_output hp, ?_, ?_, ?_, ?_, ?_, hpoll, ?_⟩,
    ⟨hin, hp, ?_, ?_, ?_, ?_, ?_, ?_, ?_, ?_, ?_⟩⟩ <;>
    simp only [State.phaseIn, h1, h2, h3, h4, h5, h6, h7, h8, h9, h10, h11, h12, h13, h14] at * <;> assumption

end Sys2Proof.Machine
end

