-- ==== Sys2Proof/Tests/Slice0.lean ====
section
/-! SUPPORT. Tests of the model: ill-formed terms refused, words written out from the spec's encodings, one-step tests with the
spec's own examples, and a witness for the hypotheses of every statement of Certificates/Slice0/Obligations.lean. -/

namespace Sys2Proof.Tests

open Sys2Proof Sys2Proof.Machine

/-! ## Well-formedness (R100, R103) -/

theorem test_wf_setInput : (Instr.setInput 1).wellFormed = false := by decide
theorem test_wf_setOutput : (Instr.setOutput 255).wellFormed = false := by decide
theorem test_wf_driveLow : (Instr.driveLow 2).wellFormed = false := by decide
theorem test_wf_driveHigh : (Instr.driveHigh 128).wellFormed = false := by decide
theorem test_wf_lineRead : (Instr.lineRead 20).wellFormed = false := by decide
theorem test_wf_port_words :
    (Instr.setInput 0).wellFormed = true ∧ (Instr.lineRead 0).wellFormed = true ∧ (Instr.waitUs 2).wellFormed = true ∧
      (Instr.waitMs 20).wellFormed = true := by decide

/-! ## Words, bit by bit -/

/-- R101: pattern -------1. -/
theorem test_decode_read : decode .hostcmd 0b00000001 = .ok (.read 0) := by decide
/-- R101: pattern -------0. -/
theorem test_decode_nocmd : decode .hostcmd 0b10000000 = .ok (.nocmd 0b1000000) := by decide
/-- R99, as the ten below. -/
theorem test_decode_idle : decode .phase 0b0000 = .ok .idle := by decide
theorem test_decode_idleWait : decode .phase 0b0001 = .ok .idleWait := by decide
theorem test_decode_wake : decode .phase 0b0010 = .ok .wake := by decide
theorem test_decode_ackStart : decode .phase 0b0011 = .ok .ackStart := by decide
theorem test_decode_ackEnd : decode .phase 0b0100 = .ok .ackEnd := by decide
theorem test_decode_sync : decode .phase 0b0101 = .ok .sync := by decide
theorem test_decode_measure : decode .phase 0b0110 = .ok .measure := by decide
theorem test_decode_classify : decode .phase 0b0111 = .ok .classify := by decide
theorem test_decode_extract : decode .phase 0b1000 = .ok .extract := by decide
theorem test_decode_convert : decode .phase 0b1001 = .ok .convert := by decide
theorem test_decode_verify : decode .phase 0b1010 = .ok .verify := by decide
theorem test_decode_phase11 : decode .phase 0b1011 = .ok .phaseReserved11 := by decide
theorem test_decode_phase14 : decode .phase 0b1110 = .ok (.phaseReserved12to15 0b10) := by decide
/-- R100, as the seven below: op in bits 10:8, n in bits 7:0. -/
theorem test_decode_setInput : decode .pop 0b00000000000 = .ok (.setInput 0) := by decide
theorem test_decode_setOutput : decode .pop 0b00100000000 = .ok (.setOutput 0) := by decide
theorem test_decode_driveLow : decode .pop 0b01000000000 = .ok (.driveLow 0) := by decide
theorem test_decode_driveHigh : decode .pop 0b01100000000 = .ok (.driveHigh 0) := by decide
theorem test_decode_lineRead : decode .pop 0b10000000000 = .ok (.lineRead 0) := by decide
theorem test_decode_waitUs : decode .pop 0b10100000010 = .ok (.waitUs 2) := by decide
theorem test_decode_waitMs : decode .pop 0b11000010100 = .ok (.waitMs 20) := by decide
theorem test_decode_popReserved : decode .pop 0b11111111111 = .ok (.popReserved 255) := by decide
/-- R91: a count of 9. -/
theorem test_decode_pulse : decode .pulse 0b00001001 = .ok (.pulse 9) := by decide
/-- R92: x, then 50.0 in tenths, then -20.0, then the checksum 0x3D. -/
theorem test_decode_frame41 :
    decode .frame41 0b10000000111110100100000001100100000111101 = .ok (.frame41 1 0x01F4 0x80C8 0x3D) := by decide
/-- R94: 0x81F4, bit 15 apart from 14:0. -/
theorem test_decode_field16Hum : decode .field16Hum 0b1000000111110100 = .ok (.field16Hum 1 500) := by decide
/-- R95: 0x80C8, the sign and 200. -/
theorem test_decode_field16Temp : decode .field16Temp 0b1000000011001000 = .ok (.field16Temp 1 200) := by decide
/-- R96. -/
theorem test_decode_checksum8 : decode .checksum8 0b00111101 = .ok (.checksum8 0x3D) := by decide
/-- R40: 0x06, Success with the sign flag. -/
theorem test_decode_status : decode .hostreg 0b00000110 = .ok (.status 0 1 1 0) := by decide
/-- R98, as the seven below. -/
theorem test_decode_success : decode .outcome 0b000 = .ok .success := by decide
theorem test_decode_busHung : decode .outcome 0b001 = .ok .busHung := by decide
theorem test_decode_notPresent : decode .outcome 0b010 = .ok .notPresent := by decide
theorem test_decode_ackTooLong : decode .outcome 0b011 = .ok .ackTooLong := by decide
theorem test_decode_syncTimeout : decode .outcome 0b100 = .ok .syncTimeout := by decide
theorem test_decode_dataTimeout : decode .outcome 0b101 = .ok .dataTimeout := by decide
theorem test_decode_checksumMismatch : decode .outcome 0b110 = .ok .checksumMismatch := by decide
theorem test_decode_noOutcome : decode .outcome 0b111 = .ok .noOutcome := by decide
/-- R90: one fixed width. -/
theorem test_decode_too_wide : decode .phase 0b10000 = .rejected .tooWide := by decide
/-- R40: bits 3 and 7 read 0. -/
theorem test_decode_status_bit3 : decode .hostreg 0b00001000 = .rejected .reservedStatusBit := by decide
theorem test_decode_status_bit7 : decode .hostreg 0b10000000 = .rejected .reservedStatusBit := by decide

/-- Bare words, log 15: one of each width. -/
theorem test_table_words :
    decodeTableWord 8 0x01 = some (.read 0) ∧ decodeTableWord 4 0xA = some .verify ∧
      decodeTableWord 11 0x614 = some (.waitMs 20) ∧ decodeTableWord 16 0x81F4 = some (.field16Hum 1 500) ∧
      decodeTableWord 41 0 = some (.frame41 0 0 0 0) ∧ decodeTableWord 3 6 = some .checksumMismatch := by decide

/-! ## One step -/

/-- A field of the next state, if there is one. -/
def after {α : Type} (o : Host.Outcome State Fault Refusal) (f : State → α) : Option α :=
  match o with
  | .next t => some (f t)
  | .fault _ => none
  | .refused _ => none

/-- A call that runs, in phase p at the place m. -/
def running (p : PhaseCode) (m : Micro) : State := { State.reset with phase := p, busy := true, micro := m }

/-- A call at an answer v to its n-th poll. -/
def answered (p : PhaseCode) (n : Byte) (v : Level) : State := { running p .answered with poll := n, popRdata := v }

/-- R131. -/
theorem test_read_starts :
    after (exec (.read 0) { State.reset with humX10 := 500, done := true, outcome := 0 })
      (fun t => (t.phase, t.busy, t.done, t.outcome, t.humX10)) = some (1, true, false, 7, 0) := by decide
/-- R132. -/
theorem test_read_ignored : after (exec (.read 127) (answered 6 9 true)) (fun t => (t.phase, t.poll)) = some (6, 9) := by decide
/-- R101: 0xFE is no command. -/
theorem test_nocmd :
    after (step { State.reset with inputs := [.hostWrite .cmd 0xFE] }) (fun t => (t.phase, t.busy)) = some (0, false) := by decide
/-- R21. -/
theorem test_idle : after (exec .idle State.reset) (fun t => (t.phase, t.popWord)) = some (0, none) := by decide
/-- R232: the first operation is SET_INPUT. -/
theorem test_idleWait_first : after (exec .idleWait (running 1 .enter)) (fun t => t.popWord) = some (some 0x000) := by decide
/-- R160: L126 gives BusHung. -/
theorem test_idleWait_126 :
    after (exec .idleWait (answered 1 126 false)) (fun t => (t.outcome, t.phase, t.poll)) = some (1, 0, 126) := by decide
/-- R161: the latch first. -/
theorem test_wake_first : after (exec .wake (running 2 .enter)) (fun t => t.popWord) = some (some 0x200) := by decide
/-- R161: 20 ms. -/
theorem test_wake_hold : after (exec .wake (running 2 .driven)) (fun t => t.popWord) = some (some 0x614) := by decide
/-- R162: the 26th low is NotPresent. -/
theorem test_ackStart_26 : after (exec .ackStart (answered 3 26 false)) (fun t => (t.outcome, t.phase)) = some (2, 0) := by decide
/-- R162: the 25th is not. -/
theorem test_ackStart_25 :
    after (exec .ackStart (answered 3 25 false)) (fun t => (t.outcome, t.poll, t.popWord)) = some (7, 26, some 0x502) := by decide
/-- R163: H50 L passes with POLL = 51. -/
theorem test_ackEnd_51 :
    after (exec .ackEnd { answered 4 51 false with idx := 3 }) (fun t => (t.phase, t.poll, t.idx)) = some (5, 51, 0) := by decide
/-- R163: H51 gives AckTooLong. -/
theorem test_ackEnd_fails : after (exec .ackEnd (answered 4 51 true)) (fun t => (t.outcome, t.phase)) = some (3, 0) := by decide
/-- R171: SyncTimeout with IDX = 7 keeps it. -/
theorem test_sync_fails :
    after (exec .sync { answered 5 36 false with idx := 7 }) (fun t => (t.outcome, t.idx)) = some (4, 7) := by decide
/-- R171: the 36th may be high. -/
theorem test_sync_36 : after (exec .sync (answered 5 36 true)) (fun t => (t.outcome, t.phase)) = some (7, 6) := by decide
/-- R172: H8 L stores 9. -/
theorem test_measure_stores :
    after (exec .measure { answered 6 9 false with idx := 3 }) (fun t => (Memory.read t.sample 3, t.idx, t.phase)) =
      some (9, 4, 5) := by decide
/-- R170: the 41st sample ends the loop. -/
theorem test_measure_last :
    after (exec .measure { answered 6 51 false with idx := 40 }) (fun t => (Memory.read t.sample 40, t.idx, t.phase)) =
      some (51, 41, 7) := by decide
/-- R180: 9, 3, 3, 6, 5 give 1, 0, 0, 1, 0. -/
theorem test_classify :
    after (exec .classify { running 7 .enter with sample := [(0, 9), (1, 3), (2, 3), (3, 6), (4, 5)] })
      (fun t => (t.bits, t.phase)) = some (0b10010#5 ++ 0#36, 8) := by decide
/-- R181: BIT[1..16] = 0000 0001 1111 0100 is 0x01F4; BIT[0] is in no field. -/
theorem test_extract :
    after (exec .extract { running 8 .enter with bits := 0b10000000111110100100000001100100000111101 })
      (fun t => (t.humRaw, t.tempRaw, t.chkRx)) = some (0x01F4, 0x80C8, 0x3D) := by decide
/-- R182, R183: 0x81F4 is 500, 0x80C8 is -200. -/
theorem test_convert :
    after (exec .convert { running 9 .enter with humRaw := 0x81F4, tempRaw := 0x80C8 })
      (fun t => (t.humX10, t.tempX10, t.tempNeg)) = some (500, 0xFF38, true) := by decide
/-- R183: negative zero keeps its flag. -/
theorem test_convert_negative_zero :
    after (exec .convert { running 9 .enter with humRaw := 0xFFFF, tempRaw := 0x8000 })
      (fun t => (t.humX10, t.tempX10, t.tempNeg)) = some (32767, 0, true) := by decide
/-- R190: 0x01 + 0xF4 + 0x80 + 0xC8 = 0x23D. -/
theorem test_verify_success :
    after (exec .verify { running 10 .enter with humRaw := 0x01F4, tempRaw := 0x80C8, chkRx := 0x3D, humX10 := 500 })
      (fun t => (t.chkCalc, t.outcome, t.humX10, t.done)) = some (0x3D, 0, 500, true) := by decide
/-- R191: 40 one bits are a mismatch. -/
theorem test_verify_mismatch :
    after (exec .verify { running 10 .enter with humRaw := 0xFFFF, tempRaw := 0xFFFF, chkRx := 0xFF, humX10 := 32767 })
      (fun t => (t.chkCalc, t.outcome, t.humX10)) = some (0xFC, 6, 0) := by decide
/-- R103. -/
theorem test_phase11 : exec .phaseReserved11 State.reset = .fault .reservedPhase := rfl
/-- R103, at the program counter. -/
theorem test_phase12to15 : step { State.reset with phase := 0b1101 } = .fault .reservedPhase := rfl

/-- R140. -/
theorem test_setInput :
    after (exec (.setInput 0) { State.reset with lineOe := true, lineOut := true }) (fun t => (t.lineOe, t.lineOut)) =
      some (false, true) := by decide
/-- R141. -/
theorem test_setOutput : after (exec (.setOutput 0) State.reset) (fun t => (t.lineOe, t.lineOut)) = some (true, false) := by decide
/-- R142: the direction stays. -/
theorem test_driveLow :
    after (exec (.driveLow 0) { State.reset with lineOut := true }) (fun t => (t.lineOe, t.lineOut)) = some (false, false) := by decide
/-- R143. -/
theorem test_driveHigh : after (exec (.driveHigh 0) State.reset) (fun t => (t.lineOe, t.lineOut)) = some (false, true) := by decide
/-- R144: the script L L H. -/
theorem test_lineRead :
    after (exec (.lineRead 0) { State.reset with script := [false, false, true], popRdata := true })
      (fun t => (t.popRdata, t.script)) = some (false, [false, true]) := by decide
/-- R145. -/
theorem test_waitUs : after (exec (.waitUs 2) (answered 3 7 true)) (fun t => (t.poll, t.popRdata)) = some (7, true) := by decide
/-- R146: the line stays driven. -/
theorem test_waitMs : after (exec (.waitMs 20) { State.reset with lineOe := true }) (fun t => t.lineOe) = some true := by decide
/-- R103. -/
theorem test_popReserved : step { State.reset with popWord := some 0x7FF } = .fault .reservedPop := rfl
/-- R103: SET_INPUT with n = 1 at the port. -/
theorem test_ill_formed_word : step { State.reset with popWord := some 0x001 } = .fault .illFormed := rfl

/-- R103: WAIT_US 3 and WAIT_MS 2 at the port. -/
theorem test_foreign_waits :
    step { State.reset with popWord := some 0x503 } = .fault .foreignWait ∧
      step { State.reset with popWord := some 0x602 } = .fault .foreignWait := ⟨rfl, rfl⟩

/-- R91: 5 is a 0. -/
theorem test_pulse_5 :
    after (exec (.pulse 5) { State.reset with bits := 0b11#41 <<< 39 }) (fun t => (t.bits, Memory.read t.sample 0)) =
      some (0b01#41 <<< 39, 5) := by decide
/-- R91: 6 is a 1. -/
theorem test_pulse_6 : after (exec (.pulse 6) { State.reset with idx := 40 }) (fun t => t.bits) = some 1 := by decide
/-- R92, R93. -/
theorem test_frame41 :
    after (exec (.frame41 1 0x01F4 0x80C8 0x3D) State.reset) (fun t => (t.humRaw, t.tempRaw, t.chkRx)) =
      some (0x01F4, 0x80C8, 0x3D) := by decide
/-- R94: bit 15 is masked off and kept in the raw register. -/
theorem test_field16Hum :
    after (exec (.field16Hum 1 500) State.reset) (fun t => (t.humRaw, t.humX10)) = some (0x81F4, 500) := by decide
/-- R95: sign and magnitude. -/
theorem test_field16Temp :
    after (exec (.field16Temp 1 0x7FFF) State.reset) (fun t => (t.tempRaw, t.tempX10, t.tempNeg)) =
      some (0xFFFF, 0x8001, true) := by decide
/-- R190, R191 with a call running. -/
theorem test_checksum8 :
    after (exec (.checksum8 0x3C) { running 10 .enter with humRaw := 0x01F4, tempRaw := 0x80C8 })
      (fun t => (t.chkRx, t.chkCalc, t.outcome)) = some (0x3C, 0x3D, 6) := by decide
/-- R210: with none running. -/
theorem test_checksum8_idle : after (exec (.checksum8 0x3C) State.reset) (fun t => (t.chkRx, t.outcome)) = some (0x3C, 7) := by decide
/-- R40: 0x70 after reset. -/
theorem test_status_reset : after (exec (.status 0 0 0 0) State.reset) (fun t => t.hostData) = some 0x70 := by decide
/-- R40: 0x06 after Success with the sign flag. -/
theorem test_status_negative :
    after (step { State.reset with done := true, outcome := 0, tempNeg := true, inputs := [.hostRead .status] })
      (fun t => t.hostData) = some 0x06 := by decide

/-- R40, as the six below: the worked values of STATUS. -/
theorem test_success : after (exec .success (running 10 .enter)) (fun t => t.statusByte) = some 0x02 := by decide
theorem test_busHung : after (exec .busHung (running 1 .enter)) (fun t => t.statusByte) = some 0x12 := by decide
theorem test_notPresent : after (exec .notPresent (running 3 .enter)) (fun t => t.statusByte) = some 0x22 := by decide
theorem test_ackTooLong : after (exec .ackTooLong (running 4 .enter)) (fun t => t.statusByte) = some 0x32 := by decide
theorem test_syncTimeout : after (exec .syncTimeout (running 5 .enter)) (fun t => t.statusByte) = some 0x42 := by decide
theorem test_dataTimeout : after (exec .dataTimeout (running 6 .enter)) (fun t => t.statusByte) = some 0x52 := by decide
theorem test_checksumMismatch :
    after (exec .checksumMismatch { running 10 .enter with humX10 := 1 }) (fun t => (t.statusByte, t.humX10)) =
      some (0x62, 0) := by decide
/-- R33, R35. -/
theorem test_noOutcome :
    after (exec .noOutcome { State.reset with done := true, outcome := 0 }) (fun t => t.statusByte) = some 0x70 := by decide

/-- Words placed for the next step run there (log 16). -/
theorem test_withFetchWord :
    after (step (State.reset.withFetchWord 8 0x01)) (fun t => t.phase) = some 1 ∧
      after (step (State.reset.withFetchWord 4 0x7)) (fun t => t.phase) = some 8 ∧
      after (step (State.reset.withFetchWord 11 0x100)) (fun t => t.lineOe) = some true ∧
      after (step ((running 4 .enter).withFetchWord 16 0x500)) (fun t => t.phase) = some 4 ∧
      after (step (State.reset.withFetchWord 16 0x81F4)) (fun t => t.humX10) = some 500 ∧
      after (step (State.reset.withFetchWord 3 7)) (fun t => t.outcome) = some 7 := by decide

/-! ## Witnesses

A name witness_<Name> belongs to Obligations.<Name>. A statement without a hypothesis has none. -/

/-- The decidable part of the invariant, over indices of the space. -/
def invChecks (s : State) : Bool :=
  decide (s.busy = true ↔ s.phase ≠ 0) && decide (¬(s.busy = true ∧ s.done = true)) &&
  decide (s.done = true ↔ s.outcome ≠ 7) && decide (s.lineOut = false) && decide (s.lineOe = true → s.phase = 2) &&
  decide (s.humX10.getLsbD 15 = false) && decide (s.tempX10 ≠ 0x8000) &&
  decide (∀ i : Fin 41, (Memory.read s.sample i).toNat ≤ 51) &&
  decide (∀ i : Fin 41, i.val < s.idx.toNat → Memory.read s.sample i ≠ 0) &&
  decide (s.done = true → s.outcome ≠ 0 → s.humX10 = 0 ∧ s.tempX10 = 0 ∧ s.tempNeg = false) &&
  decide (s.poll.toNat ≤ 126) && decide (s.idx.toNat ≤ 41) && decide (∀ e ∈ s.inputs, e.ofAgent = true) &&
  Memory.wf s.sample && decide (1 ≤ s.phase.toNat ∧ s.phase.toNat ≤ 4 → s.idx.toNat = 0) &&
  decide (5 ≤ s.phase.toNat ∧ s.phase.toNat ≤ 6 → s.idx.toNat ≤ 40) &&
  decide (7 ≤ s.phase.toNat ∧ s.phase.toNat ≤ 10 → s.idx.toNat = 41) &&
  decide (1 ≤ s.phase.toNat ∧ s.phase.toNat ≤ 6 → ∀ i : Fin 41, s.idx.toNat ≤ i.val → Memory.read s.sample i = 0) &&
  decide (1 ≤ s.phase.toNat ∧ s.phase.toNat ≤ 7 → s.bits = 0) &&
  decide (1 ≤ s.phase.toNat ∧ s.phase.toNat ≤ 8 → s.humRaw = 0 ∧ s.tempRaw = 0 ∧ s.chkRx = 0) &&
  decide (1 ≤ s.phase.toNat ∧ s.phase.toNat ≤ 9 → s.humX10 = 0 ∧ s.tempX10 = 0 ∧ s.tempNeg = false) &&
  decide (1 ≤ s.phase.toNat ∧ s.phase.toNat ≤ 10 → s.chkCalc = 0)

/-- A state that passes and is in place has the invariant. -/
theorem inv_of_checks {s : State} (h : invChecks s = true) (hp : s.placed) : Inv s := by
  simp only [invChecks, Bool.and_eq_true, decide_eq_true_eq, and_assoc] at h
  obtain ⟨a1, a2, a3, a4, a5, a6, a7, a8, a9, a10, a11, a12, b1, b3, b4, b5, b6, b7, b8, b9, b10, b11⟩ := h
  have out : ∀ i, ¬ i < 41 → Memory.read s.sample i = 0 := fun i hi =>
    Memory.read_outside s.sample 0 i b3 (Nat.le_of_not_lt hi)
  refine ⟨⟨a1, a2, a3, a4, a5, a6, a7, fun i => ?_, fun i hi => a9 ⟨i, by omega⟩ hi, a10, a11, a12⟩,
    ⟨b1, hp, b3, b4, b5, b6, fun h i hi => ?_, b8, b9, b10, b11⟩⟩
  · by_cases hi : i < 41
    · exact a8 ⟨i, hi⟩
    · rw [out i hi]; decide
  · by_cases hi' : i < 41
    · exact b7 h ⟨i, hi'⟩ hi
    · exact out i hi'

/-- Idle, a START to come, the line low for all reads of P1. -/
def idleStart : State := { State.reset with inputs := [.hostWrite .cmd 1], script := List.replicate 126 false }

theorem idleStart_inv : Inv idleStart := inv_of_checks (by decide) (by simp [idleStart, State.reset, State.placed])

/-- Every sample taken, each of one poll. -/
def allSamples : List Host.Cell := (List.range 41).map (·, 1)

/-- P9 about to find a wrong checksum. -/
def badFrame : State := { running 10 .enter with idx := 41, sample := allSamples, chkRx := 1, poll := 1 }

/-- P9 about to accept. -/
def goodFrame : State := { badFrame with chkRx := 0 }

theorem badFrame_inv : Inv badFrame :=
  inv_of_checks (by decide) (by simp [badFrame, running, State.reset, State.placed, State.entered])

theorem goodFrame_inv : Inv goodFrame :=
  inv_of_checks (by decide) (by simp [goodFrame, badFrame, running, State.reset, State.placed, State.entered])

/-- In a poll of a polling phase at its bound. -/
theorem answered_inv :
    Inv (answered 1 126 false) ∧ Inv (answered 3 26 false) ∧ Inv (answered 4 51 true) ∧ Inv (answered 5 36 false) ∧
      Inv (answered 6 51 true) ∧ Inv (answered 6 51 false) := by
  refine ⟨?_, ?_, ?_, ?_, ?_, ?_⟩ <;>
    exact inv_of_checks (by decide) (by simp [answered, running, State.reset, State.placed, State.polling, State.inFlight])

/-- SET_OUTPUT in flight in P2; the wake wait in flight; a poll's wait in flight; a read in flight. -/
def outputComing : State := { running 2 .driven with popWord := some 0x100 }
/-- The wake wait in flight. -/
def holding : State := { running 2 .held with popWord := some 0x614, lineOe := true }
/-- A poll's wait in flight. -/
def pollComing : State := { running 3 .ticked with poll := 26, popWord := some 0x502 }
/-- A poll's read in flight. -/
def readComing : State := { running 3 .answered with poll := 1, popWord := some 0x400 }

theorem port_inv : Inv outputComing ∧ Inv holding ∧ Inv pollComing ∧ Inv readComing := by
  refine ⟨?_, ?_, ?_, ?_⟩ <;>
    exact inv_of_checks (by decide) (by
      simp [outputComing, holding, pollComing, readComing, running, State.reset, State.placed, State.waking, State.polling,
        State.inFlight])

theorem witness_EncodeOfDecode : decode .pop 0x614 = .ok (.waitMs 20) := by decide
theorem witness_DecodeFollowsTable : decode .hostreg 0x77 = .ok (.status 7 1 1 1) := by decide
theorem witness_StepPerformsPortOperation :
    outputComing.popWord = some 0x100 ∧ ((0x100 : PopWord).toNat / 256 = 5 → (0x100 : PopWord).toNat % 256 = 2) ∧
      ((0x100 : PopWord).toNat / 256 = 6 → (0x100 : PopWord).toNat % 256 = 20) ∧ decode .pop ((0x100 : PopWord).setWidth 48) = .ok (.setOutput 0) ∧
      (Instr.setOutput 0).wellFormed = true ∧ outputComing.inputs = [] ∧
      ({ outputComing with inputs := [.run] } : State).inputs = .run :: [] := by decide
theorem witness_StepRunsPhaseOperation :
    badFrame.popWord = none ∧ decode .phase (badFrame.phase.setWidth 48) = .ok .verify ∧ badFrame.inputs = [] ∧
      ({ badFrame with inputs := [.run, .reset] } : State).inputs = .run :: [.reset] := by decide
theorem witness_StepHostWrite :
    idleStart.inputs = .hostWrite .cmd 1 :: [] ∧ (1 : Half).getLsbD 0 = true ∧ (0xFFFE : Half).getLsbD 0 = false ∧
      HostReg.tempX10 ≠ .cmd := by decide
theorem witness_StepHostRead :
    ({ State.reset with inputs := [.hostRead .humX10] } : State).inputs = .hostRead .humX10 :: [] ∧
      ({ State.reset with done := true, outcome := 0 } : State).gateOpen ∧ ¬ State.reset.gateOpen := by
  refine ⟨rfl, ⟨rfl, rfl⟩, ?_⟩
  simp [State.gateOpen, State.reset]
theorem witness_StepReset : ({ holding with inputs := [.reset] } : State).inputs = .reset :: [] := rfl
theorem witness_StepStallAndSeam :
    ({ holding with inputs := [.stall] } : State).inputs = .stall :: [] ∧
      ({ holding with inputs := [.inject .outcome 6] } : State).inputs = .inject .outcome 6 :: [] ∧
      decode .outcome 6 = .ok .checksumMismatch ∧ Instr.checksumMismatch.wellFormed = true := by decide
theorem witness_ReadStartsCall : idleStart.busy = false := rfl
theorem witness_ReadIgnoredWhileBusy : holding.busy = true := rfl
theorem witness_IdleWaitReleasesLine :
    (running 1 .enter).micro ≠ .loop ∧ (running 1 .enter).micro ≠ .ticked ∧ (running 1 .enter).micro ≠ .answered := by decide
theorem witness_PollBegins :
    (∃ r ∈ pollingPhases, r.instr = .idleWait) ∧ (running 1 .loop).micro ≠ .ticked ∧ (running 1 .loop).micro ≠ .answered ∧
      (running 1 .loop).micro = .loop := by decide
theorem witness_PollReads : (⟨.ackStart, 3, true, 26, 2⟩ : PollingPhase) ∈ pollingPhases ∧ pollComing.micro = .ticked := by decide
theorem witness_PollGoesOn :
    (⟨.idleWait, 1, true, 126, 1⟩ : PollingPhase) ∈ pollingPhases ∧ (answered 1 125 false).micro = .answered ∧
      (answered 1 125 false).popRdata ≠ true ∧ (answered 1 125 false).poll.toNat ≠ 126 := by decide
theorem witness_PollFails :
    (⟨.measure, 6, false, 51, 5⟩ : PollingPhase) ∈ pollingPhases ∧ (answered 6 51 true).micro = .answered ∧
      (answered 6 51 true).popRdata ≠ false ∧ (answered 6 51 true).poll.toNat = 51 := by decide
theorem witness_PollMatches :
    (answered 1 126 true).micro = .answered ∧ (answered 1 126 true).popRdata = true ∧ (answered 4 51 false).popRdata = false := by
  decide
theorem witness_MeasureStoresSample :
    (answered 6 51 false).micro = .answered ∧ (answered 6 51 false).popRdata = false ∧
      Memory.wf (answered 6 51 false).sample = true ∧ ({ answered 6 51 false with idx := 40 } : State).idx.toNat ≤ 40 ∧
      40 < ({ answered 6 51 false with idx := 41 } : State).idx.toNat := by decide
theorem witness_WakeSequence :
    (running 2 .latched).micro = .latched ∧ (running 2 .driven).micro = .driven ∧ (running 2 .held).micro = .held ∧
      (running 2 .released).micro = .released ∧ (running 2 .enter).micro ≠ .latched ∧ (running 2 .enter).micro ≠ .driven ∧
      (running 2 .enter).micro ≠ .held ∧ (running 2 .enter).micro ≠ .released := by decide
theorem witness_VerifyDecides :
    payloadSum goodFrame.humRaw goodFrame.tempRaw % 256 = goodFrame.chkRx.toNat ∧
      payloadSum badFrame.humRaw badFrame.tempRaw % 256 ≠ badFrame.chkRx.toNat := by decide
theorem witness_LineReadAnswers :
    idleStart.lineOe = false ∧ idleStart.script = false :: List.replicate 125 false ∧ State.reset.script = [] ∧
      holding.lineOe = true := by decide
theorem witness_ReservedCodesStop :
    (0x4FF : PopWord).toNat / 256 ≤ 4 ∧ (0x4FF : PopWord).toNat % 256 ≠ 0 ∧
      (0x501 : PopWord).toNat / 256 = 5 ∧ (0x501 : PopWord).toNat % 256 ≠ 2 ∧ (0x615 : PopWord).toNat / 256 = 6 ∧
      (0x615 : PopWord).toNat % 256 ≠ 20 ∧ ({ State.reset with popWord := some 0x4FF } : State).inputs = [] ∧
      ({ State.reset with popWord := some 0x4FF } : State).popWord = some 0x4FF := by decide
theorem witness_PulseClassifies :
    Memory.wf badFrame.sample = true ∧ ({ badFrame with idx := 40 } : State).idx.toNat ≤ 40 ∧ 40 < badFrame.idx.toNat := by decide
theorem witness_ChecksumJudges :
    badFrame.busy = true ∧ payloadSum badFrame.humRaw badFrame.tempRaw % 256 = (0 : Byte).toNat ∧
      payloadSum badFrame.humRaw badFrame.tempRaw % 256 ≠ (255 : Byte).toNat ∧ State.reset.busy = false := by decide
theorem witness_OutcomesEndCall : badFrame.busy = true ∧ State.reset.busy = false := by decide
theorem witness_SingleBitErrorDetected : checksumOk (frameHum 0) (frameTemp 0) (frameChk 0) = true := by decide
theorem witness_DecodeSeesOnlyClassification :
    let s : State := { running 7 .enter with sample := [(0, 5), (40, 6)] }
    let s' : State := { running 7 .enter with sample := [(40, 51)], bits := 1, idx := 41 }
    s.phase = 7 ∧ s'.phase = 7 ∧ s.popWord = none ∧ s'.popWord = none ∧ s.inputs = [] ∧ s'.inputs = [] ∧
      ∀ i, i ≤ 40 → (5 < (Memory.read s.sample i).toNat ↔ 5 < (Memory.read s'.sample i).toNat) := by
  refine ⟨rfl, rfl, rfl, rfl, rfl, rfl, ?_⟩
  have : ∀ i : Fin 41, (5 < (Memory.read [(0, 5), (40, 6)] i).toNat ↔ 5 < (Memory.read [(40, 51)] i).toNat) := by decide
  exact fun i hi => this ⟨i, by omega⟩
theorem witness_ResultOfCall :
    ({ State.reset with done := true, outcome := 0 } : State).done = true ∧
      ({ State.reset with done := true, outcome := 6 } : State).outcome = ProtocolError.checksumMismatch.code := by decide
theorem witness_StepKeepsInvariant : Inv (answered 6 51 false) ∧ ∃ t, step (answered 6 51 false) = .next t :=
  ⟨answered_inv.2.2.2.2.2, _, rfl⟩
theorem witness_StepAlwaysAnswers : Inv holding := port_inv.2.1
theorem witness_PhaseTransitions :
    Inv idleStart ∧ idleStart.noReset ∧ ∃ t, step idleStart = .next t ∧ t.phase ≠ idleStart.phase :=
  ⟨idleStart_inv, by simp [State.noReset, idleStart], _, rfl, by decide⟩

/-- A call that ends with the code c by the next step. -/
def Ends (s : State) (c : BitVec 3) : Prop :=
  Inv s ∧ s.noReset ∧ s.busy = true ∧ ∃ t, step s = .next t ∧ t.busy = false ∧ t.outcome = c

theorem witness_StateAtEachError :
    Ends goodFrame 0 ∧ Ends (answered 1 126 false) 1 ∧ Ends (answered 3 26 false) 2 ∧ Ends (answered 4 51 true) 3 ∧
      Ends (answered 5 36 false) 4 ∧ Ends (answered 6 51 true) 5 ∧ Ends badFrame 6 := by
  obtain ⟨h1, h2, h3, h4, h5, -⟩ := answered_inv
  refine ⟨⟨goodFrame_inv, ?_, rfl, _, rfl, rfl, rfl⟩, ⟨h1, ?_, rfl, _, rfl, rfl, rfl⟩, ⟨h2, ?_, rfl, _, rfl, rfl, rfl⟩,
    ⟨h3, ?_, rfl, _, rfl, rfl, rfl⟩, ⟨h4, ?_, rfl, _, rfl, rfl, rfl⟩, ⟨h5, ?_, rfl, _, rfl, rfl, rfl⟩,
    ⟨badFrame_inv, ?_, rfl, _, rfl, rfl, rfl⟩⟩ <;>
    simp [State.noReset, goodFrame, badFrame, answered, running, State.reset]
theorem witness_IssuesOnlySixWords : Inv (answered 3 26 false) ∧ ∃ t, step (answered 3 26 false) = .next t :=
  ⟨answered_inv.2.1, _, rfl⟩
theorem witness_LineWhileInFlight :
    Inv readComing ∧ readComing.popWord = some 0x400 ∧ Inv holding ∧ holding.popWord = some 0x614 :=
  ⟨port_inv.2.2.2, rfl, port_inv.2.1, rfl⟩
theorem witness_SamplesWrittenOnlyByMeasure :
    Inv (answered 6 51 false) ∧ (answered 6 51 false).noReset ∧
      ∃ t, step (answered 6 51 false) = .next t ∧ t.sample ≠ (answered 6 51 false).sample :=
  ⟨answered_inv.2.2.2.2.2, by simp [State.noReset, answered, running, State.reset], _, rfl, by decide⟩
theorem witness_SampleSpaceCanonical : Memory.wf badFrame.sample = true ∧ ∃ t, step badFrame = .next t := ⟨by decide, _, rfl⟩
theorem witness_HostCannotDisturb :
    ({ holding with inputs := [.hostWrite .cmd 1] } : State).busy = true ∧
      ({ holding with inputs := [.hostWrite .cmd 1] } : State).inputs = .hostWrite .cmd 1 :: [] ∧
      ({ holding with inputs := [.hostRead .status] } : State).inputs = .hostRead .status :: [] := by decide

/-- Idle after an error. -/
def afterError : State := { State.reset with done := true, outcome := 4 }

theorem afterError_inv : Inv afterError := inv_of_checks (by decide) (by simp [afterError, State.reset, State.placed])

theorem witness_HostSeesNoPartialResult :
    Inv holding ∧ holding.busy = true ∧ Inv afterError ∧ afterError.done = true ∧ afterError.outcome ≠ 0 :=
  ⟨port_inv.2.1, rfl, afterError_inv, rfl, by decide⟩
theorem witness_ResultStaysUntilStart :
    Inv afterError ∧ afterError.busy = false ∧ afterError.noReset ∧ ¬ afterError.startComes ∧ ∃ t, step afterError = .next t :=
  ⟨afterError_inv, rfl, by simp [State.noReset, afterError, State.reset], by simp [State.startComes, afterError, State.reset], _, rfl⟩
theorem witness_EveryCallEnds : Inv pollComing ∧ pollComing.busy = true ∧ pollComing.inputs = [] := ⟨port_inv.2.2.1, rfl, rfl⟩
/-- Idle after an error, which is already a call's end, with a new START to come. -/
def errorStart : State := { afterError with inputs := [.hostWrite .cmd 1], script := List.replicate 126 false }

theorem errorStart_inv : Inv errorStart :=
  inv_of_checks (by decide) (by simp [errorStart, afterError, State.reset, State.placed])

theorem witness_CallBounds :
    (Inv idleStart ∧ idleStart.busy = false ∧ idleStart.inputs = [.hostWrite .cmd 1] ∧ (1 : Half).getLsbD 0 = true) ∧
      Inv errorStart ∧ errorStart.busy = false ∧ errorStart.inputs = [.hostWrite .cmd 1] ∧ errorStart.callOver :=
  ⟨⟨idleStart_inv, rfl, rfl, by decide⟩, errorStart_inv, rfl, rfl, rfl, rfl, by decide⟩
theorem witness_CallIsTheFunction :
    Inv idleStart ∧ idleStart.busy = false ∧ idleStart.inputs = [.hostWrite .cmd 1] ∧ (1 : Half).getLsbD 0 = true ∧
      ∃ e, Call.run idleStart.script = some e ∧ e.outcome = .error .busHung :=
  ⟨idleStart_inv, rfl, rfl, by decide, _, rfl, rfl⟩
theorem witness_CallsAreStateless :
    Inv idleStart ∧ Inv errorStart ∧ idleStart.busy = false ∧ errorStart.busy = false ∧
      idleStart.inputs = [.hostWrite .cmd 1] ∧ errorStart.inputs = [.hostWrite .cmd 1] ∧ (1 : Half).getLsbD 0 = true ∧
      idleStart.script = errorStart.script ∧ idleStart.draws = errorStart.draws :=
  ⟨idleStart_inv, errorStart_inv, rfl, rfl, rfl, rfl, by decide,
    rfl, rfl⟩
theorem witness_WakePulseLastsTwentyMs : Inv outputComing ∧ outputComing.inputs = [] ∧ outputComing.popWord = some 0x100 :=
  ⟨port_inv.1, rfl, rfl⟩
theorem witness_PollLasts : Inv pollComing ∧ pollComing.inputs = [] ∧ pollComing.popWord = some 0x502 :=
  ⟨port_inv.2.2.1, rfl, rfl⟩
theorem witness_StopsOnlyOnMeaningless :
    (∀ e ∈ State.reset.inputs, e.ofAgent = true) ∧
      step { State.reset with phase := 11 } = .fault .reservedPhase ∧
      step { State.reset with popWord := some 0x700 } = .fault .reservedPop ∧
      step { State.reset with popWord := some 0x4FF } = .fault .illFormed ∧
      step { State.reset with popWord := some 0x501 } = .fault .foreignWait ∧
      step { State.reset with popWord := some 0x613 } = .fault .foreignWait ∧
      step { answered 6 51 false with idx := 41 } = .fault .sampleIndex :=
  ⟨by decide, rfl, rfl, rfl, rfl, rfl, rfl⟩

end Sys2Proof.Tests
end

section
/-! PROOFS. A step taken apart: the event it consumes, or the block's own move. -/

namespace Sys2Proof.Machine

/-- What a step makes of what was fetched. -/
def Fetched.outcome : Fetched → Host.Outcome State Fault Refusal
  | .instr i t => exec i t
  | .settled t => .next t
  | .stop f => .fault f

theorem step_eq_outcome (s : State) : step s = (fetch s).outcome := rfl

/-- The block's own move (R148, R21): the operation in flight, or with none the phase operation. -/
def ownStep (s : State) : Host.Outcome State Fault Refusal := (fetchOwn s).outcome

/-- The state with its oldest outside event taken out. -/
def State.consumed (s : State) : State := { s with inputs := s.inputs.tail }

theorem step_of_no_input {s : State} (h : s.inputs = []) : step s = ownStep s := by
  rw [step_eq_outcome, fetch, h]
  rfl

theorem step_of_event {s : State} {e : Event} {rest : List Event} (h : s.inputs = e :: rest) :
    step s = (fetchEvent e { s with inputs := rest }).outcome := by
  rw [step_eq_outcome, fetch, h]

theorem step_of_run {s : State} {rest : List Event} (h : s.inputs = .run :: rest) :
    step s = ownStep { s with inputs := rest } :=
  step_of_event h

/-- Every phase code is well formed, so only a word in flight keeps the sequencer from its phase operation (R21). -/
theorem ownStep_of_phase {s : State} {i : Instr} (hw : s.popWord = none)
    (hd : decode .phase (s.phase.setWidth 48) = .ok i) : ownStep s = exec i s := by
  have hf : i.wellFormed = true := by
    rw [decode_of_lt (setWidth_lt s.phase (by decide))] at hd
    simp only [decodeIn, Decoded.ok.injEq] at hd
    subst hd
    unfold decodePhase
    split <;> rfl
  rw [ownStep, fetchOwn_phase hw rfl hd hf, Fetched.outcome]

/-- START is bit 0 of the byte written (R39). -/
theorem extractLsb'_zero_one (v : Half) : (v.setWidth 8).extractLsb' 0 1 = BitVec.ofBool (v.getLsbD 0) := by
  apply BitVec.eq_of_getLsbD_eq
  intro i hi
  obtain rfl : i = 0 := by omega
  simp

theorem extractLsb'_one_seven (v : Half) : (v.setWidth 8).extractLsb' 1 7 = v.extractLsb' 1 7 := by
  apply BitVec.eq_of_getLsbD_eq
  intro i hi
  have : 1 + i < 8 := by omega
  simp [this]

/-- A CMD write runs READ or NOCMD by its bit 0 (R39, R101). -/
theorem step_of_cmd {s : State} {v : Half} {rest : List Event} (h : s.inputs = .hostWrite .cmd v :: rest) :
    step s = exec (if v.getLsbD 0 = true then .read (v.extractLsb' 1 7) else .nocmd (v.extractLsb' 1 7))
      { s with inputs := rest } := by
  rw [step_of_event h, fetchEvent, fetchWord_hostcmd, Fetched.outcome, extractLsb'_zero_one, extractLsb'_one_seven]
  cases v.getLsbD 0 <;> rfl

/-- A START while idle is accepted. -/
theorem step_of_start {s : State} {v : Half} {rest : List Event} (hi : s.inputs = .hostWrite .cmd v :: rest)
    (hv : v.getLsbD 0 = true) (hb : s.busy = false) : step s = .next (State.startCall { s with inputs := rest }) := by
  rw [step_of_cmd hi, if_pos hv, exec, execRead, hb]
  rfl

/-- A CMD write while a call runs, or with bit 0 = 0, does nothing (R132, R39). -/
theorem step_of_cmd_ignored {s : State} {v : Half} {rest : List Event} (hi : s.inputs = .hostWrite .cmd v :: rest)
    (h : v.getLsbD 0 = true → s.busy = true) : step s = .next { s with inputs := rest } := by
  rw [step_of_cmd hi]
  split
  · rename_i hv
    rw [exec, execRead, h hv]
    rfl
  · rfl

/-- A write to another register than CMD is ignored (R38). -/
theorem step_of_other_write {s : State} {r : HostReg} {v : Half} {rest : List Event}
    (h : s.inputs = .hostWrite r v :: rest) (hr : r ≠ .cmd) : step s = .next { s with inputs := rest } := by
  rw [step_of_event h]
  cases r with
  | cmd => exact absurd rfl hr
  | status => rfl
  | humX10 => rfl
  | tempX10 => rfl

/-- A host read hands the register to the host (R38). -/
theorem step_of_hostRead {s : State} {r : HostReg} {rest : List Event} (h : s.inputs = .hostRead r :: rest) :
    step s = .next (State.hostRead { s with inputs := rest } r) := by
  rw [step_of_event h]
  cases r with
  | status => rw [fetchEvent, fetchWord_statusByte]; rfl
  | cmd => rfl
  | humX10 => rfl
  | tempX10 => rfl

/-- Everything a step can do when only the spec's agents have events to come. -/
theorem step_cases {s t : State} (ha : ∀ e ∈ s.inputs, e.ofAgent = true) (h : step s = .next t) :
    ownStep s.consumed = .next t ∨ t = s.consumed ∨ (∃ r, t = s.consumed.hostRead r) ∨
      (s.startComes ∧ s.busy = false ∧ t = s.consumed.startCall) ∨ (¬ s.noReset ∧ t = s.consumed.applyReset) := by
  cases hi : s.inputs with
  | nil =>
    have hc : s.consumed = s := by cases s; cases hi; rfl
    exact .inl (by rw [hc, ← step_of_no_input hi, h])
  | cons e rest =>
    have hc : s.consumed = { s with inputs := rest } := by rw [State.consumed, hi, List.tail_cons]
    rw [hc]
    cases e with
    | run => exact .inl (by rw [← step_of_run hi, h])
    | stall =>
      rw [step_of_event hi] at h
      cases h
      exact .inr (.inl rfl)
    | hostWrite r v =>
      by_cases hr : r = .cmd
      · subst hr
        by_cases hs : v.getLsbD 0 = true ∧ s.busy = false
        · rw [step_of_start hi hs.1 hs.2] at h
          cases h
          exact .inr (.inr (.inr (.inl ⟨⟨v, rest, hi, hs.1⟩, hs.2, rfl⟩)))
        · rw [step_of_cmd_ignored hi fun hv => by simpa [hv] using hs] at h
          cases h
          exact .inr (.inl rfl)
      · rw [step_of_other_write hi hr] at h
        cases h
        exact .inr (.inl rfl)
    | hostRead r =>
      rw [step_of_hostRead hi] at h
      cases h
      exact .inr (.inr (.inl ⟨r, rfl⟩))
    | reset =>
      rw [step_of_event hi] at h
      cases h
      exact .inr (.inr (.inr (.inr ⟨by simp [State.noReset, hi], rfl⟩)))
    | inject f w => simp [hi, Event.ofAgent] at ha

end Sys2Proof.Machine
end

section
/-! PROOFS. The STATUS byte as a number. -/

namespace Sys2Proof.Machine

theorem State.gate_iff (s : State) : s.gate = true ↔ s.gateOpen := by
  simp [State.gate, State.gateOpen, ProtocolOutcome.code]

/-- The STATUS byte as a number, field by field (R40). -/
theorem State.statusByte_toNat (s : State) :
    s.statusByte.toNat = 16 * s.outcome.toNat + (if s.done = true ∧ s.outcome = 0 ∧ s.tempNeg = true then 4 else 0) +
      (if s.done = true then 2 else 0) + (if s.busy = true then 1 else 0) := by
  have byte : ∀ (o : BitVec 3) (n d b : Bool),
      (0#1 ++ o ++ 0#1 ++ BitVec.ofBool n ++ BitVec.ofBool d ++ BitVec.ofBool b : Byte).toNat =
        16 * o.toNat + (if n = true then 4 else 0) + (if d = true then 2 else 0) + (if b = true then 1 else 0) := by decide
  have hn : (s.gate && s.tempNeg) = true ↔ s.done = true ∧ s.outcome = 0 ∧ s.tempNeg = true := by
    rw [Bool.and_eq_true, State.gate_iff, State.gateOpen, and_assoc]
  rw [State.statusByte, byte]
  simp only [hn]

/-- The STATUS register is the STATUS byte, widened (R38). -/
theorem State.hostValue_status_toNat (s : State) : (s.hostValue .status).toNat = s.statusByte.toNat := by
  rw [State.hostValue, BitVec.toNat_setWidth_of_le (by decide)]

end Sys2Proof.Machine
end

section
/-! PROOFS. The statements about reset, the host and one step. -/

namespace Sys2Proof.Machine

/-- Settles O7: the step is the block's own move, and with an empty port that is the phase operation. -/
theorem stepRunsPhaseOperation : Obligations.StepRunsPhaseOperation := by
  intro s i rest hw hd
  refine ⟨fun hi => ?_, fun hi => ?_⟩
  · rw [step_of_no_input hi, ownStep_of_phase hw hd]
  · rw [step_of_run hi]
    exact ownStep_of_phase hw hd

/-- Settles O8: a CMD write by its bit 0, and a write to another register. -/
theorem stepHostWrite : Obligations.StepHostWrite := by
  intro s r v rest hi
  refine ⟨fun hr hv => ?_, fun hr hv => ?_, step_of_other_write hi⟩
  · subst hr
    rw [step_of_cmd hi, if_pos hv]
  · subst hr
    rw [step_of_cmd hi, if_neg (Bool.eq_false_iff.1 hv)]

/-- Settles O9: the value handed over is the register's as the host sees it. -/
theorem stepHostRead : Obligations.StepHostRead := by
  intro s r rest hi
  have gated (x : Half) : (s.gateOpen → (if s.gate then x else 0) = x) ∧ (¬ s.gateOpen → (if s.gate then x else 0) = 0) :=
    ⟨fun h => if_pos (s.gate_iff.2 h), fun h => if_neg (fun hg => h (s.gate_iff.1 hg))⟩
  refine ⟨s.hostValue r, step_of_hostRead hi, ?_, ?_, ?_, ?_⟩
  · rintro rfl; rfl
  · rintro rfl
    rw [State.hostValue_status_toNat, State.statusByte_toNat]
  · rintro rfl
    exact gated s.humX10
  · rintro rfl
    exact gated s.tempX10

/-- Settles O11: each value is the reset table's, and IDLE leaves the state as it is. -/
theorem resetValues : Obligations.ResetValues := by
  refine ⟨rfl, rfl, rfl, fun _ => rfl, rfl, rfl, rfl, rfl, rfl, rfl, rfl, rfl, rfl, rfl, rfl, rfl, rfl, by decide, by decide,
    by decide, ?_⟩
  rw [step_of_no_input rfl, ownStep_of_phase (i := .idle) rfl (by decide)]
  rfl

/-- Settles O15: both meanings answer the state they were given. -/
theorem nocmdAndIdleDoNothing : Obligations.NocmdAndIdleDoNothing :=
  fun _ _ => ⟨rfl, rfl⟩

/-- Settles O16: STATUS is the host's read of register 1, whatever the word presented holds. -/
theorem statusReads : Obligations.StatusReads := by
  intro o n d b s
  refine ⟨s.hostRead .status, rfl, ?_, ⟨⟨rfl, rfl, rfl⟩, ⟨rfl, fun _ => rfl⟩, ⟨rfl, rfl, rfl, rfl, rfl⟩, ⟨rfl, rfl, rfl⟩,
    rfl, rfl, rfl⟩, ⟨rfl, rfl⟩, ⟨rfl, rfl, rfl, rfl⟩, ⟨rfl, rfl⟩, rfl, rfl⟩
  rw [State.hostRead_hostData, State.hostValue_status_toNat, State.statusByte_toNat]

end Sys2Proof.Machine
end

section
/-! PROOFS. The block's own move said once: the operation in flight performed, or one stretch of the phase operation. -/

namespace Sys2Proof.Machine

/-! ### The operation in flight (R140 to R146, R148) -/

/-- One of the six words performed: the port is empty, and the line, the answer and the ghost time are as the word says. -/
def State.performed (s : State) (w : PopWord) : State :=
  let d : State := { s with popWord := none }
  if w = 0x000 then { d.passDrive with lineOe := false }
  else if w = 0x100 then { d.passDrive with lineOe := true }
  else if w = 0x200 then { d.passDrive with lineOut := false }
  else if w = 0x400 then { d.passRead with popRdata := d.nextAnswer, script := d.scriptAfter }
  else if w = 0x502 then d.passWait 2000
  else d.passWait 20000000

/-- The block's own move with one of the six words in flight. -/
theorem ownStep_of_word {s : State} {w : PopWord} (h : s.popWord = some w) (hw : w ∈ issuedWords) :
    ownStep s = .next (s.performed w) := by
  have perform {i : Instr} (hm : waitMeant w = true) (hd : decode .pop (w.setWidth 48) = .ok i) (hf : i.wellFormed = true) :
      ownStep s = exec i { s with popWord := none } := by
    rw [ownStep, fetchOwn_word h hm hd hf, Fetched.outcome]
  simp only [issuedWords, List.mem_cons, List.not_mem_nil, or_false] at hw
  rcases hw with rfl | rfl | rfl | rfl | rfl | rfl
  · exact perform (i := .setInput 0) (by decide) (by decide) rfl
  · exact perform (i := .setOutput 0) (by decide) (by decide) rfl
  · exact perform (i := .driveLow 0) (by decide) (by decide) rfl
  · exact perform (i := .lineRead 0) (by decide) (by decide) rfl
  · exact perform (i := .waitUs 2) (by decide) (by decide) rfl
  · exact perform (i := .waitMs 20) (by decide) (by decide) rfl

section performed
variable (s : State) (w : PopWord)

@[simp] theorem State.performed_phase : (s.performed w).phase = s.phase := by unfold State.performed; split_ifs <;> rfl
@[simp] theorem State.performed_poll : (s.performed w).poll = s.poll := by unfold State.performed; split_ifs <;> rfl
@[simp] theorem State.performed_micro : (s.performed w).micro = s.micro := by unfold State.performed; split_ifs <;> rfl
@[simp] theorem State.performed_popWord : (s.performed w).popWord = none := by unfold State.performed; split_ifs <;> rfl
@[simp] theorem State.performed_trace : (s.performed w).trace = s.trace := by unfold State.performed; split_ifs <;> rfl
@[simp] theorem State.performed_inputs : (s.performed w).inputs = s.inputs := by unfold State.performed; split_ifs <;> rfl

/-- Only SET_INPUT and SET_OUTPUT turn the line (R140, R141). -/
@[simp] theorem State.performed_lineOe :
    (s.performed w).lineOe = if w = 0x000 then false else if w = 0x100 then true else s.lineOe := by
  unfold State.performed; split_ifs <;> rfl

/-- No word of the six latches a high level (R43). -/
theorem State.performed_lineOut (h : s.lineOut = false) : (s.performed w).lineOut = false := by
  unfold State.performed
  split_ifs
  exacts [h, h, rfl, h, h, h]

/-- No port operation changes a register of R21 to R35 (R148). -/
theorem State.performed_sameRegisters : s.sameRegisters (s.performed w) := by
  unfold State.performed
  split_ifs <;>
    exact ⟨⟨rfl, rfl, rfl⟩, ⟨rfl, fun _ => rfl⟩, ⟨rfl, rfl, rfl, rfl, rfl⟩, ⟨rfl, rfl, rfl⟩, rfl, rfl, rfl⟩

end performed

/-! ### The rows of R164 by name: the members of pollingPhases -/

/-- P1. -/
abbrev PollingPhase.p1 : PollingPhase := ⟨.idleWait, 1, true, 126, 1⟩
/-- P3. -/
abbrev PollingPhase.p3 : PollingPhase := ⟨.ackStart, 3, true, 26, 2⟩
/-- P4. -/
abbrev PollingPhase.p4 : PollingPhase := ⟨.ackEnd, 4, false, 51, 3⟩
/-- P5A. -/
abbrev PollingPhase.p5a : PollingPhase := ⟨.sync, 5, true, 36, 4⟩
/-- P5B. -/
abbrev PollingPhase.p5b : PollingPhase := ⟨.measure, 6, false, 51, 5⟩

/-! ### The phase operation (R133, R147, R160 to R183, R190, R191) -/

/-- Every stretch of a phase operation, from one port operation to the next or to the end of the phase. -/
inductive PhaseMove (s : State) : State → Prop
  /-- IDLE waits (R220). -/
  | idles (hp : s.phase = Phase.idle) : PhaseMove s s
  /-- P1 releases the line first (R160). -/
  | releasesLine (hp : s.phase = Phase.idleWait) (hl : s.micro ≠ .loop) (ht : s.micro ≠ .ticked) (ha : s.micro ≠ .answered) :
      PhaseMove s (s.issue Pop.setInput .loop)
  /-- A polling phase begins its loop (R147). -/
  | pollBegins {r : PollingPhase} (hr : r ∈ pollingPhases) (hp : s.phase = r.code)
      (hl : r.code = Phase.idleWait → s.micro = .loop) (ht : s.micro ≠ .ticked) (ha : s.micro ≠ .answered) :
      PhaseMove s ({ s with poll := 0 } : State).tick
  /-- After the tick the line is read (R147). -/
  | pollReads {r : PollingPhase} (hr : r ∈ pollingPhases) (hp : s.phase = r.code) (ht : s.micro = .ticked) :
      PhaseMove s (s.issue Pop.lineRead .answered)
  /-- Another level below the bound: the next poll (R147). -/
  | pollsAgain {r : PollingPhase} (hr : r ∈ pollingPhases) (hp : s.phase = r.code) (ha : s.micro = .answered)
      (hv : s.popRdata ≠ r.level) (hn : s.poll.toNat ≠ r.bound) : PhaseMove s s.tick
  /-- Another level at the bound: the phase's error (R164, R207). -/
  | pollFails {r : PollingPhase} {k : ProtocolError} (hr : r ∈ pollingPhases) (hk : k.code = r.error) (hp : s.phase = r.code)
      (ha : s.micro = .answered) (hv : s.popRdata ≠ r.level) (hn : s.poll.toNat = r.bound) : PhaseMove s (s.raiseError k)
  /-- P1 is over: the line is high (R160). -/
  | lineIsFree (hp : s.phase = Phase.idleWait) (ha : s.micro = .answered) (hv : s.popRdata = true) :
      PhaseMove s (s.goto Phase.wake)
  /-- P2 latches the low level first (R161). -/
  | wakeLatches (hp : s.phase = Phase.wake) (hl : s.micro ≠ .latched) (hd : s.micro ≠ .driven) (hh : s.micro ≠ .held)
      (hr : s.micro ≠ .released) : PhaseMove s (s.issue Pop.driveLow .latched)
  /-- P2 turns the line to output (R161). -/
  | wakeDrives (hp : s.phase = Phase.wake) (hm : s.micro = .latched) : PhaseMove s (s.issue Pop.setOutput .driven)
  /-- P2 waits (R161). -/
  | wakeHolds (hp : s.phase = Phase.wake) (hm : s.micro = .driven) : PhaseMove s (s.issue Pop.wakeHold .held)
  /-- P2 releases the line (R161). -/
  | wakeReleases (hp : s.phase = Phase.wake) (hm : s.micro = .held) : PhaseMove s (s.issue Pop.setInput .released)
  /-- P2 is over (R161). -/
  | wakeEnds (hp : s.phase = Phase.wake) (hm : s.micro = .released) : PhaseMove s (s.goto Phase.ackStart)
  /-- P3 is over (R162). -/
  | ackStarts (hp : s.phase = Phase.ackStart) (ha : s.micro = .answered) (hv : s.popRdata = true) :
      PhaseMove s (s.goto Phase.ackEnd)
  /-- P4 is over (R163). -/
  | ackEnds (hp : s.phase = Phase.ackEnd) (ha : s.micro = .answered) (hv : s.popRdata = false) :
      PhaseMove s (({ s with idx := 0 } : State).goto Phase.sync)
  /-- P5A is over (R171). -/
  | syncs (hp : s.phase = Phase.sync) (ha : s.micro = .answered) (hv : s.popRdata = true) : PhaseMove s (s.goto Phase.measure)
  /-- P5B stores the count, then the loop's control (R173, R170). -/
  | stores (hp : s.phase = Phase.measure) (ha : s.micro = .answered) (hv : s.popRdata = false) (hi : s.idx.toNat ≤ 40) :
      PhaseMove s ({ s with sample := Memory.write s.sample s.idx.toNat s.poll } : State).nextSample
  /-- P6 (R180). -/
  | classifies (hp : s.phase = Phase.classify) :
      PhaseMove s (({ s with bits := classifyAll s.sample s.bits } : State).goto Phase.extract)
  /-- P7 (R181). -/
  | extracts (hp : s.phase = Phase.extract) :
      PhaseMove s ((s.loadFields (frameHum s.bits) (frameTemp s.bits) (frameChk s.bits)).goto Phase.convert)
  /-- P8 (R182, R183). -/
  | converts (hp : s.phase = Phase.convert) :
      PhaseMove s (((s.convertHum s.humRaw).convertTemp s.tempRaw).goto Phase.verify)
  /-- P9 (R190, R191). -/
  | verifies (hp : s.phase = Phase.verify) : PhaseMove s (s.pass Config.tPost).computeChecksum.judge

/-- Error kinds with one code are one kind (R98). -/
theorem ProtocolError.code_injective : Function.Injective ProtocolError.code := by
  intro a b
  cases a <;> cases b <;> decide

/-- P1 inside its loop polls (R160). -/
theorem execIdleWait_of_loop {s : State} (hl : s.micro = .loop ∨ s.micro = .ticked ∨ s.micro = .answered) :
    execIdleWait s = s.pollPhase true Config.bIdle .busHung (fun t => .next (t.goto Phase.wake)) := by
  rcases hl with hm | hm | hm <;> rw [execIdleWait, hm]

/-- P1 outside its loop releases the line (R160). -/
theorem execIdleWait_of_not_loop {s : State} (hl : s.micro ≠ .loop) (ht : s.micro ≠ .ticked) (ha : s.micro ≠ .answered) :
    execIdleWait s = .next (s.issue Pop.setInput .loop) := by
  unfold execIdleWait
  split <;> simp_all

/-- P2 begins with the low latch (R161). -/
theorem execWake_of_other {s : State} (hl : s.micro ≠ .latched) (hd : s.micro ≠ .driven) (hh : s.micro ≠ .held)
    (hr : s.micro ≠ .released) : execWake s = .next (s.issue Pop.driveLow .latched) := by
  unfold execWake
  split <;> simp_all

/-- A polling phase inside its loop runs the poll of its row of R164. -/
theorem ownStep_of_polling {s : State} {r : PollingPhase} (hr : r ∈ pollingPhases) (hw : s.popWord = none)
    (hp : s.phase = r.code) (hl : r.code = Phase.idleWait → s.micro = .loop ∨ s.micro = .ticked ∨ s.micro = .answered) :
    ∃ k onMatch, k.code = r.error ∧ ownStep s = s.pollPhase r.level (BitVec.ofNat 8 r.bound) k onMatch := by
  have run {i : Instr} (hd : decode .phase (r.code.setWidth 48) = .ok i) : ownStep s = exec i s :=
    ownStep_of_phase hw (hp ▸ hd)
  simp only [pollingPhases, List.mem_cons, List.not_mem_nil, or_false] at hr
  rcases hr with rfl | rfl | rfl | rfl | rfl
  · exact ⟨.busHung, _, rfl, (run (i := .idleWait) (by decide)).trans (execIdleWait_of_loop (hl rfl))⟩
  · exact ⟨.notPresent, _, rfl, run (i := .ackStart) (by decide)⟩
  · exact ⟨.ackTooLong, _, rfl, run (i := .ackEnd) (by decide)⟩
  · exact ⟨.syncTimeout, _, rfl, run (i := .sync) (by decide)⟩
  · exact ⟨.dataTimeout, _, rfl, run (i := .measure) (by decide)⟩

/-- The bound of a row fits POLL (R164). -/
theorem PollingPhase.bound_le {r : PollingPhase} (hr : r ∈ pollingPhases) : 1 ≤ r.bound ∧ r.bound ≤ 126 := by
  revert r
  decide

/-- P2 polls nothing. -/
theorem PollingPhase.code_ne_wake {r : PollingPhase} (hr : r ∈ pollingPhases) : r.code ≠ Phase.wake := by
  revert r
  decide

theorem PollingPhase.poll_eq_bound {r : PollingPhase} (hr : r ∈ pollingPhases) (p : Byte) :
    p = BitVec.ofNat 8 r.bound ↔ p.toNat = r.bound := by
  have := PollingPhase.bound_le hr
  rw [← BitVec.toNat_inj, BitVec.toNat_ofNat, Nat.mod_eq_of_lt (by omega)]

/-- What a polling phase does is a move of PhaseMove, once the way on is. -/
theorem PhaseMove.of_pollPhase {s t : State} {r : PollingPhase} {k : ProtocolError}
    {onMatch : State → Host.Outcome State Fault Refusal} (hr : r ∈ pollingPhases) (hk : k.code = r.error)
    (hp : s.phase = r.code) (hl : r.code = Phase.idleWait → s.micro = .loop ∨ s.micro = .ticked ∨ s.micro = .answered)
    (hmatch : s.micro = .answered → s.popRdata = r.level → onMatch s = .next t → PhaseMove s t)
    (h : s.pollPhase r.level (BitVec.ofNat 8 r.bound) k onMatch = .next t) : PhaseMove s t := by
  rcases State.pollPhase_cases (s := s) (level := r.level) (bound := BitVec.ofNat 8 r.bound) (k := k)
      (onMatch := onMatch) with
    ⟨ht, ha, e⟩ | ⟨ht, e⟩ | ⟨ha, hv, e⟩ | ⟨ha, hv, hn, e⟩ | ⟨ha, hv, hn, e⟩ <;> rw [e] at h
  · cases h
    exact .pollBegins hr hp (fun hc => by simpa [ht, ha] using hl hc) ht ha
  · cases h
    exact .pollReads hr hp ht
  · exact hmatch ha hv h
  · cases h
    exact .pollFails hr hk hp ha hv ((PollingPhase.poll_eq_bound hr _).1 hn)
  · cases h
    exact .pollsAgain hr hp ha hv (mt (PollingPhase.poll_eq_bound hr _).2 hn)

/-- P5B's way on (R173): an index of the space is stored at, another stops (R61). -/
theorem State.takeSample_eq {s t : State} (h : s.takeSample = .next t) :
    s.idx.toNat ≤ 40 ∧ t = ({ s with sample := Memory.write s.sample s.idx.toNat s.poll } : State).nextSample := by
  by_cases hi : s.idx.toNat ≤ 40
  · rw [State.takeSample, State.storeSample_some hi] at h
    cases h
    exact ⟨hi, rfl⟩
  · rw [State.takeSample, State.storeSample_none (by omega)] at h
    cases h

/-- The phase codes: R21's eleven, and the reserved ones (R103). -/
theorem phase_cases (p : PhaseCode) :
    p = Phase.idle ∨ p = Phase.idleWait ∨ p = Phase.wake ∨ p = Phase.ackStart ∨ p = Phase.ackEnd ∨ p = Phase.sync ∨
      p = Phase.measure ∨ p = Phase.classify ∨ p = Phase.extract ∨ p = Phase.convert ∨ p = Phase.verify ∨
      (11 ≤ p.toNat ∧ (decode .phase (p.setWidth 48) = .ok .phaseReserved11 ∨
        ∃ r, decode .phase (p.setWidth 48) = .ok (.phaseReserved12to15 r))) := by
  revert p
  decide

/-- With an empty port the block's own move is a move of the phase. -/
theorem PhaseMove.of_ownStep {s t : State} (hw : s.popWord = none) (h : ownStep s = .next t) : PhaseMove s t := by
  have run {p : PhaseCode} {i : Instr} (hp : s.phase = p) (hd : decode .phase (p.setWidth 48) = .ok i) :
      exec i s = .next t := by rw [← h, ownStep_of_phase hw (hp ▸ hd)]
  rcases phase_cases s.phase with hp | hp | hp | hp | hp | hp | hp | hp | hp | hp | hp | ⟨-, hd | ⟨r, hd⟩⟩
  case inl =>
    cases run (i := .idle) hp (by decide)
    exact .idles hp
  · have hx : execIdleWait s = .next t := run (i := .idleWait) hp (by decide)
    by_cases hl : s.micro = .loop ∨ s.micro = .ticked ∨ s.micro = .answered
    · rw [execIdleWait_of_loop hl] at hx
      refine .of_pollPhase (r := .p1) (by decide) rfl hp (fun _ => hl) (fun ha hv hm => ?_) hx
      cases hm
      exact .lineIsFree hp ha hv
    · push Not at hl
      obtain ⟨hl, ht, ha⟩ := hl
      rw [execIdleWait_of_not_loop hl ht ha] at hx
      cases hx
      exact .releasesLine hp hl ht ha
  · have hx : execWake s = .next t := run (i := .wake) hp (by decide)
    unfold execWake at hx
    split at hx <;> cases hx
    · exact .wakeDrives hp ‹_›
    · exact .wakeHolds hp ‹_›
    · exact .wakeReleases hp ‹_›
    · exact .wakeEnds hp ‹_›
    · exact .wakeLatches hp ‹_› ‹_› ‹_› ‹_›
  · have hx : execAckStart s = .next t := run (i := .ackStart) hp (by decide)
    refine .of_pollPhase (r := .p3) (by decide) rfl hp (fun hc => absurd hc (by decide))
      (fun ha hv hm => ?_) hx
    cases hm
    exact .ackStarts hp ha hv
  · have hx : execAckEnd s = .next t := run (i := .ackEnd) hp (by decide)
    refine .of_pollPhase (r := .p4) (by decide) rfl hp (fun hc => absurd hc (by decide))
      (fun ha hv hm => ?_) hx
    cases hm
    exact .ackEnds hp ha hv
  · have hx : execSync s = .next t := run (i := .sync) hp (by decide)
    refine .of_pollPhase (r := .p5a) (by decide) rfl hp (fun hc => absurd hc (by decide))
      (fun ha hv hm => ?_) hx
    cases hm
    exact .syncs hp ha hv
  · have hx : execMeasure s = .next t := run (i := .measure) hp (by decide)
    refine .of_pollPhase (r := .p5b) (by decide) rfl hp (fun hc => absurd hc (by decide))
      (fun ha hv hm => ?_) hx
    obtain ⟨hi, rfl⟩ := State.takeSample_eq hm
    exact .stores hp ha hv hi
  · cases run (i := .classify) hp (by decide)
    exact .classifies hp
  · cases run (i := .extract) hp (by decide)
    exact .extracts hp
  · cases run (i := .convert) hp (by decide)
    exact .converts hp
  · cases run (i := .verify) hp (by decide)
    exact .verifies hp
  · cases run (i := .phaseReserved11) rfl hd
  · cases run (i := .phaseReserved12to15 r) rfl hd

/-- And every move of the phase is what the block then does. -/
theorem PhaseMove.ownStep_eq {s t : State} (hw : s.popWord = none) (h : PhaseMove s t) : ownStep s = .next t := by
  have run {p : PhaseCode} {i : Instr} (hp : s.phase = p) (hd : decode .phase (p.setWidth 48) = .ok i) :
      ownStep s = exec i s := ownStep_of_phase hw (hp ▸ hd)
  cases h with
  | idles hp => exact run (i := .idle) hp (by decide)
  | releasesLine hp hl ht ha => exact (run (i := .idleWait) hp (by decide)).trans (execIdleWait_of_not_loop hl ht ha)
  | pollBegins hr hp hl ht ha =>
    obtain ⟨k, onMatch, -, e⟩ := ownStep_of_polling hr hw hp fun hc => .inl (hl hc)
    rw [e, State.pollPhase, State.pollUntil_begin ht ha]
  | pollReads hr hp ht =>
    obtain ⟨k, onMatch, -, e⟩ := ownStep_of_polling hr hw hp fun _ => .inr (.inl ht)
    rw [e, State.pollPhase, State.pollUntil_ticked ht]
  | pollsAgain hr hp ha hv hn =>
    obtain ⟨k, onMatch, -, e⟩ := ownStep_of_polling hr hw hp fun _ => .inr (.inr ha)
    rw [e, State.pollPhase, State.pollUntil_again ha hv (mt (PollingPhase.poll_eq_bound hr _).1 hn)]
  | pollFails hr hk hp ha hv hn =>
    obtain ⟨k, onMatch, hk', e⟩ := ownStep_of_polling hr hw hp fun _ => .inr (.inr ha)
    rw [e, State.pollPhase, State.pollUntil_bound ha hv ((PollingPhase.poll_eq_bound hr _).2 hn),
      ProtocolError.code_injective (hk'.trans hk.symm)]
  | lineIsFree hp ha hv =>
    refine (run (i := .idleWait) hp (by decide)).trans ?_
    rw [exec, execIdleWait, ha, State.pollPhase, State.pollUntil_level ha hv]
  | wakeLatches hp hl hd hh hr => exact (run (i := .wake) hp (by decide)).trans (execWake_of_other hl hd hh hr)
  | wakeDrives hp hm => exact (run (i := .wake) hp (by decide)).trans (by rw [exec, execWake, hm])
  | wakeHolds hp hm => exact (run (i := .wake) hp (by decide)).trans (by rw [exec, execWake, hm])
  | wakeReleases hp hm => exact (run (i := .wake) hp (by decide)).trans (by rw [exec, execWake, hm])
  | wakeEnds hp hm => exact (run (i := .wake) hp (by decide)).trans (by rw [exec, execWake, hm])
  | ackStarts hp ha hv =>
    refine (run (i := .ackStart) hp (by decide)).trans ?_
    rw [exec, execAckStart, State.pollPhase, State.pollUntil_level ha hv]
  | ackEnds hp ha hv =>
    refine (run (i := .ackEnd) hp (by decide)).trans ?_
    rw [exec, execAckEnd, State.pollPhase, State.pollUntil_level ha hv]
  | syncs hp ha hv =>
    refine (run (i := .sync) hp (by decide)).trans ?_
    rw [exec, execSync, State.pollPhase, State.pollUntil_level ha hv]
  | stores hp ha hv hi =>
    refine (run (i := .measure) hp (by decide)).trans ?_
    rw [exec, execMeasure, State.pollPhase, State.pollUntil_level ha hv]
    simp only [State.takeSample, State.storeSample_some hi]
  | classifies hp => exact run (i := .classify) hp (by decide)
  | extracts hp => exact run (i := .extract) hp (by decide)
  | converts hp => exact run (i := .convert) hp (by decide)
  | verifies hp => exact run (i := .verify) hp (by decide)

end Sys2Proof.Machine
end

section
/-! PROOFS. The invariant by groups of registers (R43 and the model's coherence), and what each group needs to hold after a
step. A step touches few groups; the others move by their congruence lemma. -/

namespace Sys2Proof.Machine

/-- What the invariant says of PHASE, OUTCOME, BUSY and DONE (R43, items 1 to 3). -/
structure StatusOk (s : State) : Prop where
  busy_iff : s.busy = true ↔ s.phase ≠ 0
  not_both : ¬(s.busy = true ∧ s.done = true)
  done_iff : s.done = true ↔ s.outcome ≠ 7

/-- What it says of PHASE, IDX and SAMPLE (R43, items 8 and 10; R22, R24, R61). -/
structure SamplesOk (s : State) : Prop where
  range : ∀ i, (Memory.read s.sample i).toNat ≤ 51
  taken : ∀ i, i < s.idx.toNat → Memory.read s.sample i ≠ 0
  wf : Memory.wf s.sample = true
  idx_range : s.idx.toNat ≤ 41
  idx_before : s.phaseIn 1 4 → s.idx.toNat = 0
  idx_during : s.phaseIn 5 6 → s.idx.toNat ≤ 40
  idx_after : s.phaseIn 7 10 → s.idx.toNat = 41
  ahead : s.phaseIn 1 6 → ∀ i, s.idx.toNat ≤ i → Memory.read s.sample i = 0

/-- What it says of the decoder's and the result registers (R43, items 6, 7 and 9; R174). -/
structure DecoderOk (s : State) : Prop where
  hum_top : s.humX10.getLsbD 15 = false
  temp_range : s.tempX10 ≠ 0x8000
  error_clears : s.done = true → s.outcome ≠ 0 → s.humX10 = 0 ∧ s.tempX10 = 0 ∧ s.tempNeg = false
  bits_clear : s.phaseIn 1 7 → s.bits = 0
  raw_clear : s.phaseIn 1 8 → s.humRaw = 0 ∧ s.tempRaw = 0 ∧ s.chkRx = 0
  result_clear : s.phaseIn 1 9 → s.humX10 = 0 ∧ s.tempX10 = 0 ∧ s.tempNeg = false
  calc_clear : s.phaseIn 1 10 → s.chkCalc = 0

/-- What it says of the line, the port, POLL and the events to come (R43, items 4, 5 and 10; logs 2, 3). -/
structure PlaceOk (s : State) : Prop where
  placed : s.placed
  line_out : s.lineOut = false
  poll_range : s.poll.toNat ≤ 126
  agents : ∀ e ∈ s.inputs, e.ofAgent = true

/-- The invariant is its four groups. Item 5 of R43 follows from the place. -/
theorem inv_iff (s : State) : Inv s ↔ StatusOk s ∧ SamplesOk s ∧ DecoderOk s ∧ PlaceOk s := by
  constructor
  · rintro ⟨⟨a1, a2, a3, a4, -, a6, a7, a8, a9, a10, a11, a12⟩, ⟨b1, b2, b3, b4, b5, b6, b7, b8, b9, b10, b11⟩⟩
    exact ⟨⟨a1, a2, a3⟩, ⟨a8, a9, b3, a12, b4, b5, b6, b7⟩, ⟨a6, a7, a10, b8, b9, b10, b11⟩, ⟨b2, a4, a11, b1⟩⟩
  · rintro ⟨⟨a1, a2, a3⟩, ⟨a8, a9, b3, a12, b4, b5, b6, b7⟩, ⟨a6, a7, a10, b8, b9, b10, b11⟩, ⟨b2, a4, a11, b1⟩⟩
    exact ⟨⟨a1, a2, a3, a4, State.placed_output b2, a6, a7, a8, a9, a10, a11, a12⟩,
      ⟨b1, b2, b3, b4, b5, b6, b7, b8, b9, b10, b11⟩⟩

/-! ### Status -/

theorem StatusOk.ended {s : State} (hp : s.phase = 0) (hb : s.busy = false) (hd : s.done = true) (ho : s.outcome ≠ 7) :
    StatusOk s :=
  ⟨by simp [hp, hb], by simp [hb], iff_of_true hd ho⟩

/-- No outcome yet, whether or not a call runs. -/
theorem StatusOk.pending {s : State} (hb : s.busy = true ↔ s.phase ≠ 0) (hd : s.done = false) (ho : s.outcome = 7) :
    StatusOk s :=
  ⟨hb, by simp [hd], by simp [hd, ho]⟩

/-- A call that goes on keeps its status. -/
theorem StatusOk.moved {s t : State} (h : StatusOk s) (hs : s.phase ≠ 0) (ht : t.phase ≠ 0) (hst : s.sameStatus t) :
    StatusOk t := by
  obtain ⟨ho, hb, hd⟩ := hst
  exact ⟨by rw [hb, h.busy_iff]; exact iff_of_true hs ht, by rw [hb, hd]; exact h.not_both, by rw [hd, ho]; exact h.done_iff⟩

/-! ### Samples -/

/-- Nothing sampled, before or in P5 (R45, R131). -/
theorem SamplesOk.cleared {s : State} (hi : s.idx = 0) (hm : s.sample = []) (hp : s.phase.toNat ≤ 6) : SamplesOk s := by
  have hr (i : Nat) : Memory.read s.sample i = 0 := by rw [hm]; rfl
  have hi : s.idx.toNat = 0 := by rw [hi]; rfl
  exact ⟨fun i => by rw [hr]; decide, fun i h => by omega, by rw [hm]; rfl, by omega, fun _ => hi, fun _ => by omega,
    fun h => by have := h.1; omega, fun _ i _ => hr i⟩

/-- The same samples under another PHASE, once IDX is right for it. -/
theorem SamplesOk.moved {s t : State} (h : SamplesOk s) (hi : t.idx = s.idx) (hm : t.sample = s.sample)
    (h14 : t.phaseIn 1 4 → s.idx.toNat = 0) (h56 : t.phaseIn 5 6 → s.idx.toNat ≤ 40)
    (h710 : t.phaseIn 7 10 → s.idx.toNat = 41) (h16 : t.phaseIn 1 6 → s.phaseIn 1 6) : SamplesOk t := by
  obtain ⟨range, taken, wf, idx_range, -, -, -, ahead⟩ := h
  rw [← hi] at taken idx_range h14 h56 h710 ahead
  rw [← hm] at range taken wf ahead
  exact ⟨range, taken, wf, idx_range, h14, h56, h710, fun h => ahead (h16 h)⟩

/-- Inside P1 to P5 no sample moves with PHASE, and P5 does not lead back to P4. -/
theorem SamplesOk.acquiring {s t : State} (h : SamplesOk s) (hi : t.idx = s.idx) (hm : t.sample = s.sample)
    (hs : s.phaseIn 1 6) (ht : t.phaseIn 1 6) (h4 : t.phase.toNat ≤ 4 → s.phase.toNat ≤ 4) : SamplesOk t := by
  obtain ⟨hs1, hs6⟩ := hs
  have hidx : s.idx.toNat ≤ 40 := by
    by_cases h4 : s.phase.toNat ≤ 4
    · have := h.idx_before ⟨hs1, h4⟩
      omega
    · exact h.idx_during ⟨by omega, hs6⟩
  exact h.moved hi hm (fun ht => h.idx_before ⟨hs1, h4 ht.2⟩) (fun _ => hidx) (fun h7 => by have := h7.1.trans ht.2; omega)
    (fun _ => ⟨hs1, hs6⟩)

/-- From P6 on the samples are complete. -/
theorem SamplesOk.decoding {s t : State} (h : SamplesOk s) (hi : t.idx = s.idx) (hm : t.sample = s.sample)
    (hs : s.phaseIn 7 10) (ht : 7 ≤ t.phase.toNat) : SamplesOk t := by
  refine h.moved hi hm (fun h => ?_) (fun h => ?_) (fun _ => h.idx_after hs) (fun h => ?_) <;>
    · unfold State.phaseIn at h; omega

/-- In IDLE the samples of the last call stand. -/
theorem SamplesOk.ended {s t : State} (h : SamplesOk s) (hi : t.idx = s.idx) (hm : t.sample = s.sample) (ht : t.phase = 0) :
    SamplesOk t := by
  have ht : t.phase.toNat = 0 := by rw [ht]; rfl
  refine h.moved hi hm (fun h => ?_) (fun h => ?_) (fun h => ?_) (fun h => ?_) <;>
    · unfold State.phaseIn at h; omega

/-- P5B's store (R173) of a poll count, and the step of IDX (R170). -/
theorem SamplesOk.stored {s t : State} {c : Byte} (h : SamplesOk s) (hs : s.phase = Phase.measure)
    (hc : 1 ≤ c.toNat ∧ c.toNat ≤ 51) (hm : t.sample = Memory.write s.sample s.idx.toNat c) (hi : t.idx.toNat = s.idx.toNat + 1)
    (ht : (t.phase = Phase.sync ∧ t.idx.toNat ≤ 40) ∨ (t.phase = Phase.classify ∧ t.idx.toNat = 41)) : SamplesOk t := by
  have hs : s.phaseIn 5 6 := by rw [State.phaseIn, hs]; decide
  have hidx := h.idx_during hs
  have same : Memory.read t.sample s.idx.toNat = c := by rw [hm, Memory.read_write_same _ _ _ 0 h.wf]
  have other (i : Nat) (hne : i ≠ s.idx.toNat) : Memory.read t.sample i = Memory.read s.sample i := by
    rw [hm, Memory.read_write_other _ _ _ _ hne]
  have hp : (t.phase.toNat = 5 ∧ t.idx.toNat ≤ 40) ∨ (t.phase.toNat = 7 ∧ t.idx.toNat = 41) :=
    ht.imp (fun h => ⟨by rw [h.1]; rfl, h.2⟩) (fun h => ⟨by rw [h.1]; rfl, h.2⟩)
  refine ⟨fun i => ?range, fun i hlt => ?taken, ?wf, by omega, ?before, ?during, ?after, fun _ i hle => ?ahead⟩
  case range =>
    by_cases hne : i = s.idx.toNat
    · rw [hne, same]; exact hc.2
    · rw [other i hne]; exact h.range i
  case taken =>
    by_cases hne : i = s.idx.toNat
    · rw [hne, same]
      rintro rfl
      exact absurd hc.1 (by decide)
    · rw [other i hne]; exact h.taken i (by omega)
  case wf => rw [hm]; exact Memory.wf_write _ _ _ h.wf (decide_eq_true (show s.idx.toNat < 41 by omega))
  case ahead =>
    rw [other i (by omega)]
    exact h.ahead ⟨by have := hs.1; omega, hs.2⟩ i (by omega)
  all_goals
    rintro ⟨hlo, hhi⟩
    omega

/-! ### Decoder and results -/

/-- Nothing decoded (R45, R131), under any PHASE. -/
theorem DecoderOk.cleared {s : State} (hb : s.bits = 0) (hr : s.humRaw = 0 ∧ s.tempRaw = 0 ∧ s.chkRx = 0) (hc : s.chkCalc = 0)
    (hx : s.humX10 = 0 ∧ s.tempX10 = 0 ∧ s.tempNeg = false) : DecoderOk s :=
  ⟨by rw [hx.1]; decide, by rw [hx.2.1]; decide, fun _ _ => hx, fun _ => hb, fun _ => hr, fun _ => hx, fun _ => hc⟩

/-- Nothing is decoded during acquisition (R174), so PHASE may move on. -/
theorem DecoderOk.acquiring {s t : State} (h : DecoderOk s) (hs : s.phaseIn 1 6) (hd : s.sameDecoder t)
    (hx : s.sameResults t) : DecoderOk t := by
  obtain ⟨hlo, hhi⟩ := hs
  obtain ⟨d1, d2, d3, d4, d5⟩ := hd
  obtain ⟨x1, x2, x3⟩ := hx
  refine .cleared ?_ ?_ ?_ ?_
  · rw [d1]; exact h.bits_clear ⟨hlo, by omega⟩
  · rw [d2, d3, d4]; exact h.raw_clear ⟨hlo, by omega⟩
  · rw [d5]; exact h.calc_clear ⟨hlo, by omega⟩
  · rw [x1, x2, x3]; exact h.result_clear ⟨hlo, by omega⟩

/-- In IDLE only the result registers matter. -/
theorem DecoderOk.ended {s : State} (hp : s.phase = 0) (hh : s.humX10.getLsbD 15 = false) (ht : s.tempX10 ≠ 0x8000)
    (he : s.done = true → s.outcome ≠ 0 → s.humX10 = 0 ∧ s.tempX10 = 0 ∧ s.tempNeg = false) : DecoderOk s := by
  have hp : s.phase.toNat = 0 := by rw [hp]; rfl
  refine ⟨hh, ht, he, fun h => ?_, fun h => ?_, fun h => ?_, fun h => ?_⟩ <;>
    · unfold State.phaseIn at h; omega

/-! ### Place -/

/-- The start of a phase is a place of it, the line released. -/
theorem State.placed_of_entered {s : State} (he : s.entered) (hl : s.lineOe = false) (hp : s.phase.toNat ≤ 10) :
    s.placed := by
  unfold State.placed
  split
  · exact ⟨he.2, hl⟩
  · exact ⟨.inl he, hl⟩
  · exact .inl ⟨he, hl⟩
  · exact ⟨.inl he, hl⟩
  · exact ⟨.inl he, hl⟩
  · exact ⟨.inl he, hl⟩
  · exact ⟨.inl he, hl⟩
  · exact ⟨he, hl⟩
  · exact ⟨he, hl⟩
  · exact ⟨he, hl⟩
  · exact ⟨he, hl⟩
  · simp only [imp_false] at *
    omega

theorem State.placed_of_idle {s : State} (hp : s.phase = 0) (hw : s.popWord = none) (hl : s.lineOe = false) : s.placed := by
  simp [State.placed, hp, hw, hl]

/-- A place inside a polling phase. -/
theorem State.placed_polling_iff {s : State} {r : PollingPhase} (hr : r ∈ pollingPhases) (hp : s.phase = r.code) :
    s.placed ↔ (s.entered ∨ (r.code = Phase.idleWait ∧ s.micro = .loop ∧ s.inFlight 0x000) ∨ s.polling r.bound) ∧
      s.lineOe = false := by
  simp only [pollingPhases, List.mem_cons, List.not_mem_nil, or_false] at hr
  rcases hr with rfl | rfl | rfl | rfl | rfl <;> simp [State.placed, hp, Phase.idleWait]

end Sys2Proof.Machine
end

section
/-! PROOFS. What the invariant says of the place, and that the events, the operations in flight and the ends of a call keep it. -/

namespace Sys2Proof.Machine

theorem State.phaseIn_of {s : State} {p : PhaseCode} {a b : Nat} (hp : s.phase = p) (h : a ≤ p.toNat ∧ p.toNat ≤ b) :
    s.phaseIn a b := by
  rw [State.phaseIn, hp]
  exact h

/-! ### What the invariant says of an empty port -/

/-- Outside P2 the line is released (R43). -/
theorem Inv.lineOe_eq_false {s : State} (h : Inv s) (hp : s.phase ≠ Phase.wake) : s.lineOe = false := by
  by_contra hoe
  exact hp (h.spec.line_oe (by simpa using hoe))

/-- Inside a poll between 1 and the bound's polls are counted (R23). -/
theorem Inv.poll_bounds {s : State} {r : PollingPhase} (h : Inv s) (hr : r ∈ pollingPhases) (hp : s.phase = r.code)
    (hm : s.micro = .ticked ∨ s.micro = .answered) : 1 ≤ s.poll.toNat ∧ s.poll.toNat ≤ r.bound := by
  obtain ⟨(he | hl | hpoll), -⟩ := (State.placed_polling_iff hr hp).1 h.coherent.placed
  · rcases hm with hm | hm <;> simp [State.entered, hm] at he
  · rcases hm with hm | hm <;> simp [hm] at hl
  · exact hpoll.2

/-- In P2 the place is one of waking's. -/
theorem State.placed_wake_iff {s : State} (hp : s.phase = Phase.wake) : s.placed ↔ s.waking := by
  have hp : s.phase.toNat = 2 := by rw [hp]; rfl
  rw [State.placed]
  split <;> simp_all

/-- An empty port in P2: where the sequencer stands says which way the line is (R73, R161). -/
theorem Inv.wake_line {s : State} (h : Inv s) (hp : s.phase = Phase.wake) (hw : s.popWord = none) :
    (s.lineOe = true ∧ (s.micro = .driven ∨ s.micro = .held)) ∨
      (s.lineOe = false ∧ (s.micro = .enter ∨ s.micro = .latched ∨ s.micro = .released)) := by
  rcases (State.placed_wake_iff hp).1 h.coherent.placed with
    ⟨⟨hm, -⟩, hl⟩ | ⟨hm, -, hl⟩ | ⟨-, hq, -⟩ | ⟨hm, -, hl⟩ | ⟨hm, -, hl⟩ | ⟨-, hq, -⟩ | ⟨hm, -, hl⟩
  · exact .inr ⟨hl, .inl hm⟩
  · exact .inr ⟨hl, .inr (.inl hm)⟩
  · rw [hw] at hq; cases hq
  · exact .inl ⟨hl, .inl hm⟩
  · exact .inl ⟨hl, .inr hm⟩
  · rw [hw] at hq; cases hq
  · exact .inr ⟨hl, .inr (.inr hm)⟩

/-! ### Moves that keep every register but POLL -/

/-- A word issued, POLL perhaps counted: the new place is what matters. -/
theorem Inv.issue {s : State} {n : Byte} {w : PopWord} {m : Micro} (h : Inv s) (hn : n.toNat ≤ 126)
    (hp : (({ s with poll := n } : State).issue w m).placed) : Inv (({ s with poll := n } : State).issue w m) :=
  h.of_port rfl rfl rfl rfl rfl rfl rfl rfl rfl rfl rfl rfl rfl rfl h.spec.line_out hp hn h.coherent.agents

/-- A poll's word issued in a polling phase. -/
theorem Inv.issue_poll {s : State} {r : PollingPhase} {n : Byte} {w : PopWord} {m : Micro} (h : Inv s)
    (hr : r ∈ pollingPhases) (hp : s.phase = r.code) (hn : 1 ≤ n.toNat ∧ n.toNat ≤ r.bound)
    (hm : (m = .ticked ∧ w = 0x502) ∨ (m = .answered ∧ w = 0x400)) : Inv (({ s with poll := n } : State).issue w m) := by
  refine h.issue (hn.2.trans (PollingPhase.bound_le hr).2)
    ((State.placed_polling_iff (s := ({ s with poll := n } : State).issue w m) hr hp).2
      ⟨.inr (.inr ⟨?_, hn⟩), ((State.placed_polling_iff hr hp).1 h.coherent.placed).2⟩)
  exact hm.imp (fun ⟨hm, hw⟩ => ⟨hm, .inr (by rw [hw]; rfl)⟩) (fun ⟨hm, hw⟩ => ⟨hm, .inr (by rw [hw]; rfl)⟩)

/-- P2's words. -/
theorem Inv.issue_wake {s : State} {w : PopWord} {m : Micro} (h : Inv s) (hp : s.phase = Phase.wake)
    (hm : (s.issue w m).waking) : Inv (s.issue w m) :=
  Inv.issue h h.spec.poll_range ((State.placed_wake_iff (s := s.issue w m) hp).2 hm)

/-- The operation in flight is done: the new place is what matters. -/
theorem Inv.performed {s : State} {w : PopWord} (h : Inv s) (hp : (s.performed w).placed) : Inv (s.performed w) := by
  obtain ⟨⟨h1, h2, h2'⟩, ⟨h3, -⟩, ⟨h4, h5, h6, h7, h8⟩, ⟨h9, h10, h11⟩, h12, h13, h14⟩ := s.performed_sameRegisters w
  refine h.of_port h1 h2 h3 h4 h5 h6 h7 h8 h9 h10 h11 h12 h13 h14 (s.performed_lineOut w h.spec.line_out) hp ?_ ?_
  · rw [h2']; exact h.spec.poll_range
  · rw [s.performed_inputs]; exact h.coherent.agents

theorem Inv.consumed {s : State} (h : Inv s) : Inv s.consumed :=
  h.of_port rfl rfl rfl rfl rfl rfl rfl rfl rfl rfl rfl rfl rfl rfl h.spec.line_out h.coherent.placed h.spec.poll_range
    fun e he => h.coherent.agents e (List.mem_of_mem_tail he)

theorem Inv.hostRead {s : State} (h : Inv s) (r : HostReg) : Inv (s.hostRead r) :=
  h.of_port rfl rfl rfl rfl rfl rfl rfl rfl rfl rfl rfl rfl rfl rfl h.spec.line_out h.coherent.placed h.spec.poll_range
    h.coherent.agents

/-! ### START and reset -/

/-- Idle is BUSY = 0 (R43). -/
theorem Inv.phase_of_idle {s : State} (h : Inv s) (hb : s.busy = false) : s.phase = Phase.idle := by
  by_contra hp
  rw [h.spec.busy_iff.2 hp] at hb
  cases hb

/-- In IDLE nothing is in flight and the line is released. -/
theorem Inv.placed_idle {s : State} (h : Inv s) (hp : s.phase = Phase.idle) : s.popWord = none ∧ s.lineOe = false := by
  simpa [State.placed, hp, Phase.idle] using h.coherent.placed

theorem Inv.startCall {s : State} (h : Inv s) (hb : s.busy = false) : Inv s.startCall := by
  obtain ⟨hw, hl⟩ := h.placed_idle (h.phase_of_idle hb)
  have hp : s.startCall.phase.toNat = 1 := rfl
  exact (inv_iff _).2 ⟨.pending (iff_of_true rfl (by simp [Phase.idleWait])) rfl rfl, .cleared rfl rfl (by omega),
    .cleared rfl ⟨rfl, rfl, rfl⟩ rfl ⟨rfl, rfl, rfl⟩,
    ⟨State.placed_of_entered ⟨rfl, hw⟩ hl (by omega), h.spec.line_out, Nat.zero_le _, h.coherent.agents⟩⟩

/-- Reset brings the invariant back from any state at all (R230). -/
theorem inv_applyReset {s : State} (ha : ∀ e ∈ s.inputs, e.ofAgent = true) : Inv s.applyReset :=
  (inv_iff _).2 ⟨.pending (iff_of_false Bool.false_ne_true fun h => h rfl) rfl rfl, .cleared rfl rfl (Nat.zero_le _),
    .cleared rfl ⟨rfl, rfl, rfl⟩ rfl ⟨rfl, rfl, rfl⟩, ⟨⟨rfl, rfl⟩, rfl, Nat.zero_le _, ha⟩⟩

/-! ### The end of a call -/

theorem ProtocolError.code_ne_none (k : ProtocolError) : k.code ≠ 7 := by
  cases k <;> decide

/-- A call ends with IDX, POLL, the samples, the line and the port as they stand. -/
theorem Inv.ends {s t : State} (h : Inv s) (hp : t.phase = 0) (hb : t.busy = false) (hd : t.done = true) (ho : t.outcome ≠ 7)
    (hi : t.idx = s.idx) (hpo : t.poll = s.poll) (hm : t.sample = s.sample) (hw : t.popWord = none) (hl : t.lineOe = false)
    (hlo : t.lineOut = s.lineOut) (hin : t.inputs = s.inputs) (hdec : DecoderOk t) : Inv t := by
  obtain ⟨-, samples, -, place⟩ := (inv_iff s).1 h
  refine (inv_iff t).2 ⟨.ended hp hb hd ho, samples.ended hi hm hp, hdec,
    ⟨State.placed_of_idle hp hw hl, hlo.trans place.line_out, ?_, ?_⟩⟩
  · rw [hpo]; exact place.poll_range
  · rw [hin]; exact place.agents

/-- The error entry clears the result registers (R207). -/
theorem decoderOk_raiseError (s : State) (k : ProtocolError) : DecoderOk (s.raiseError k) :=
  .ended rfl (by simp) (by simp) fun _ _ => ⟨rfl, rfl, rfl⟩

theorem Inv.raiseError {s : State} (h : Inv s) (k : ProtocolError) (hw : s.popWord = none) (hl : s.lineOe = false) :
    Inv (s.raiseError k) :=
  h.ends rfl rfl rfl k.code_ne_none rfl rfl rfl hw hl rfl rfl (decoderOk_raiseError s k)

/-- The checksum's verdict (R191) ends the call either way. -/
theorem Inv.verifies {s : State} (h : Inv s) (hw : s.popWord = none) (hl : s.lineOe = false) :
    Inv (s.pass Config.tPost).computeChecksum.judge := by
  by_cases hc : (s.pass Config.tPost).computeChecksum.chkCalc = (s.pass Config.tPost).computeChecksum.chkRx
  · rw [State.judge_equal hc]
    exact h.ends rfl rfl rfl (by simp [ProtocolOutcome.code]) rfl rfl rfl hw hl rfl rfl
      (.ended rfl h.spec.hum_top h.spec.temp_range fun _ ho => absurd rfl ho)
  · rw [State.judge_unequal hc]
    exact h.ends rfl rfl rfl ProtocolError.checksumMismatch.code_ne_none rfl rfl rfl hw hl rfl rfl (decoderOk_raiseError _ _)

/-! ### The operation in flight -/

/-- What may be in flight, and where the sequencer then stands (R133, R147, R160, R161). -/
inductive Flight (s : State) (w : PopWord) : Prop
  | release (hw : w = 0x000) (hp : s.phase = Phase.idleWait) (hm : s.micro = .loop)
  | latch (hw : w = 0x200) (hp : s.phase = Phase.wake) (hm : s.micro = .latched) (hl : s.lineOe = false)
  | drive (hw : w = 0x100) (hp : s.phase = Phase.wake) (hm : s.micro = .driven)
  | hold (hw : w = 0x614) (hp : s.phase = Phase.wake) (hm : s.micro = .held) (hl : s.lineOe = true)
  | wakeRelease (hw : w = 0x000) (hp : s.phase = Phase.wake) (hm : s.micro = .released)
  | wait {r : PollingPhase} (hr : r ∈ pollingPhases) (hw : w = 0x502) (hp : s.phase = r.code) (hm : s.micro = .ticked)
  | read {r : PollingPhase} (hr : r ∈ pollingPhases) (hw : w = 0x400) (hp : s.phase = r.code) (hm : s.micro = .answered)

/-- A place of a polling phase with an operation in flight. -/
theorem Inv.flight_of_polling {s : State} {r : PollingPhase} {w : PopWord} (h : Inv s) (hr : r ∈ pollingPhases)
    (hp : s.phase = r.code) (hw : s.popWord = some w) : Flight s w := by
  have flies {v : PopWord} (hv : s.inFlight v) : w = v := by simpa [State.inFlight, hw] using hv
  obtain ⟨(⟨-, hn⟩ | ⟨hc, hm, hf⟩ | ⟨⟨hm, hf⟩ | ⟨hm, hf⟩, -⟩), -⟩ := (State.placed_polling_iff hr hp).1 h.coherent.placed
  · rw [hw] at hn; cases hn
  · exact .release (flies hf) (hp.trans hc) hm
  · exact .wait hr (flies hf) hp hm
  · exact .read hr (flies hf) hp hm

theorem Inv.flight_of_wake {s : State} {w : PopWord} (h : Inv s) (hp : s.phase = Phase.wake) (hw : s.popWord = some w) :
    Flight s w := by
  have flies {v : PopWord} (hv : s.inFlight v) : w = v := by simpa [State.inFlight, hw] using hv
  have eq {v : PopWord} (hv : s.popWord = some v) : w = v := flies (.inr hv)
  rcases (State.placed_wake_iff hp).1 h.coherent.placed with
    ⟨⟨-, hn⟩, -⟩ | ⟨hm, hf, hl⟩ | ⟨hm, hf, -⟩ | ⟨-, hn, -⟩ | ⟨hm, hf, hl⟩ | ⟨hm, hf, -⟩ | ⟨-, hn, -⟩
  · rw [hw] at hn; cases hn
  · exact .latch (flies hf) hp hm hl
  · exact .drive (eq hf) hp hm
  · rw [hw] at hn; cases hn
  · exact .hold (flies hf) hp hm hl
  · exact .wakeRelease (eq hf) hp hm
  · rw [hw] at hn; cases hn

/-- The phases with port operations: P2 and the five polling phases (R21). -/
theorem phase_with_port (p : PhaseCode) :
    p = Phase.wake ∨ (∃ r ∈ pollingPhases, p = r.code) ∨ p.toNat = 0 ∨ 7 ≤ p.toNat := by
  revert p
  decide

/-- Under the invariant only the words of R133's pseudocode are in flight, each at its place. -/
theorem Inv.flight {s : State} {w : PopWord} (h : Inv s) (hw : s.popWord = some w) : Flight s w := by
  rcases phase_with_port s.phase with hp | ⟨r, hr, hp⟩ | hp
  · exact h.flight_of_wake hp hw
  · exact h.flight_of_polling hr hp hw
  · have hpl := h.coherent.placed
    unfold State.placed at hpl
    split at hpl <;> simp_all [State.entered]

theorem Flight.mem_issuedWords {s : State} {w : PopWord} (h : Flight s w) : w ∈ issuedWords := by
  cases h <;> subst w <;> decide

/-- Where an answer is awaited, the read is in flight (R147). -/
theorem Flight.eq_read {s : State} {w : PopWord} (h : Flight s w) (hm : s.micro = .answered) : w = 0x400 := by
  cases h with
  | read _ hw => exact hw
  | _ => simp_all

/-- The block's own move under the invariant, with an operation in flight. -/
theorem Inv.ownStep_performs {s : State} {w : PopWord} (h : Inv s) (hw : s.popWord = some w) :
    ownStep s = .next (s.performed w) :=
  ownStep_of_word hw (h.flight hw).mem_issuedWords

/-- The operation done, the sequencer still stands at a place of its phase. -/
theorem Inv.placed_performed {s : State} {w : PopWord} (h : Inv s) (hw : s.popWord = some w) : (s.performed w).placed := by
  have polling {r : PollingPhase} (hr : r ∈ pollingPhases) (hp : s.phase = r.code) (hl : (s.performed w).lineOe = s.lineOe)
      (hm : s.micro = .ticked ∨ s.micro = .answered) : (s.performed w).placed := by
    refine (State.placed_polling_iff hr (by rw [State.performed_phase, hp])).2 ⟨.inr (.inr ⟨?_, ?_⟩), ?_⟩
    · exact hm.imp (fun hm => ⟨by rw [State.performed_micro, hm], .inl (s.performed_popWord w)⟩)
        (fun hm => ⟨by rw [State.performed_micro, hm], .inl (s.performed_popWord w)⟩)
    · rw [State.performed_poll]; exact h.poll_bounds hr hp hm
    · rw [hl]; exact ((State.placed_polling_iff hr hp).1 h.coherent.placed).2
  have waking (hp : s.phase = Phase.wake) (hw : (s.performed w).waking) : (s.performed w).placed :=
    (State.placed_wake_iff (by rw [State.performed_phase, hp])).2 hw
  cases h.flight hw with
  | release hw hp hm =>
    refine (State.placed_polling_iff (r := .p1) (by decide) (by rw [State.performed_phase, hp]; rfl)).2
      ⟨.inr (.inl ⟨rfl, ?_, ?_⟩), ?_⟩
    · simp [hm]
    · simp [State.inFlight]
    · simp [hw]
  | latch hw hp hm hl => exact waking hp (by simp [State.waking, State.inFlight, hw, hm, hl])
  | drive hw hp hm => exact waking hp (by simp [State.waking, State.inFlight, hw, hm])
  | hold hw hp hm hl => exact waking hp (by simp [State.waking, State.inFlight, hw, hm, hl])
  | wakeRelease hw hp hm => exact waking hp (by simp [State.waking, State.inFlight, hw, hm])
  | wait hr hw hp hm => exact polling hr hp (by simp [hw]) (.inl hm)
  | read hr hw hp hm => exact polling hr hp (by simp [hw]) (.inr hm)

end Sys2Proof.Machine
end

section
/-! PROOFS. Every stretch of a phase operation keeps the invariant, and so does every step. -/

namespace Sys2Proof.Machine

/-! ### Moves from phase to phase -/

/-- In the acquisition PHASE moves on with nothing sampled and nothing decoded. -/
theorem Inv.goto_acquiring {s : State} {p : PhaseCode} (h : Inv s) (hw : s.popWord = none) (hl : s.lineOe = false)
    (hs : s.phaseIn 1 6) (hp : 1 ≤ p.toNat ∧ p.toNat ≤ 6) (h4 : p.toNat ≤ 4 → s.phase.toNat ≤ 4) : Inv (s.goto p) := by
  obtain ⟨status, samples, dec, place⟩ := (inv_iff s).1 h
  have nonzero {q : PhaseCode} (hq : 1 ≤ q.toNat) : q ≠ 0 := by rintro rfl; exact absurd hq (by decide)
  exact (inv_iff _).2 ⟨status.moved (nonzero hs.1) (nonzero hp.1) ⟨rfl, rfl, rfl⟩, samples.acquiring rfl rfl hs hp h4,
    dec.acquiring hs ⟨rfl, rfl, rfl, rfl, rfl⟩ ⟨rfl, rfl, rfl⟩,
    ⟨State.placed_of_entered ⟨rfl, hw⟩ hl (hp.2.trans (by decide)), place.line_out, place.poll_range, place.agents⟩⟩

/-- From P6 on a move that writes the decoder's registers only. -/
theorem Inv.goto_decoding {s t : State} {p : PhaseCode} (h : Inv s) (hw : t.popWord = none) (hs : s.phaseIn 7 10)
    (hp : 7 ≤ p.toNat ∧ p.toNat ≤ 10) (hst : s.sameStatus t) (hm : s.sameSamples t) (hi : t.idx = s.idx)
    (hpo : t.poll = s.poll) (hl : s.sameLine t) (hin : t.inputs = s.inputs) (hd : DecoderOk (t.goto p)) : Inv (t.goto p) := by
  obtain ⟨status, samples, -, place⟩ := (inv_iff s).1 h
  have nonzero {q : PhaseCode} (hq : 7 ≤ q.toNat) : q ≠ 0 := by rintro rfl; exact absurd hq (by decide)
  have released : s.lineOe = false := h.lineOe_eq_false fun hp => by rw [State.phaseIn, hp] at hs; exact absurd hs (by decide)
  refine (inv_iff _).2 ⟨status.moved (nonzero hs.1) (nonzero hp.1) hst, samples.decoding hi hm.1 hs hp.1, hd,
    ⟨State.placed_of_entered ⟨rfl, hw⟩ (hl.1.trans released) hp.2, hl.2.trans place.line_out, ?_, ?_⟩⟩
  · rw [State.goto_poll, hpo]; exact place.poll_range
  · rw [State.goto_inputs, hin]; exact place.agents

/-! ### P5B's loop control (R170) -/

theorem State.nextSample_of_last {s : State} (h : (s.idx + 1).toNat = Config.nSamples) :
    s.nextSample = ({ s with idx := s.idx + 1 } : State).goto Phase.classify :=
  if_pos h

theorem State.nextSample_of_more {s : State} (h : (s.idx + 1).toNat ≠ Config.nSamples) :
    s.nextSample = ({ s with idx := s.idx + 1 } : State).goto Phase.sync :=
  if_neg h

/-- IDX counts without wrapping (R22). -/
theorem idx_succ_toNat {i : BitVec 6} (h : i.toNat ≤ 40) : (i + 1).toNat = i.toNat + 1 := by
  rw [BitVec.toNat_add_of_lt (by simp; omega)]
  rfl

/-- Back to P5A until IDX is 41. -/
theorem State.nextSample_cases (s : State) (h : s.idx.toNat ≤ 40) :
    (s.idx.toNat < 40 ∧ s.nextSample = ({ s with idx := s.idx + 1 } : State).goto Phase.sync) ∨
      (s.idx.toNat = 40 ∧ s.nextSample = ({ s with idx := s.idx + 1 } : State).goto Phase.classify) := by
  have hi := idx_succ_toNat h
  by_cases h41 : (s.idx + 1).toNat = Config.nSamples
  · exact .inr ⟨by rw [Config.nSamples] at h41; omega, State.nextSample_of_last h41⟩
  · exact .inl ⟨by rw [Config.nSamples] at h41; omega, State.nextSample_of_more h41⟩

/-- A sample taken (R173) keeps the invariant, whichever way the loop goes on. -/
theorem Inv.stores {s : State} (h : Inv s) (hw : s.popWord = none) (hp : s.phase = Phase.measure) (ha : s.micro = .answered)
    (hi : s.idx.toNat ≤ 40) :
    Inv ({ s with sample := Memory.write s.sample s.idx.toNat s.poll } : State).nextSample := by
  obtain ⟨status, samples, dec, place⟩ := (inv_iff s).1 h
  have hpoll : 1 ≤ s.poll.toNat ∧ s.poll.toNat ≤ 51 := h.poll_bounds (r := .p5b) (by decide) hp (.inr ha)
  have hl : s.lineOe = false := h.lineOe_eq_false (by rw [hp]; decide)
  have hs : s.phaseIn 1 6 := State.phaseIn_of hp (by decide)
  have hs0 : s.phase ≠ 0 := by rw [hp]; decide
  have next {p : PhaseCode} (hp0 : p ≠ 0) (hp10 : p.toNat ≤ 10)
      (hto : (p = Phase.sync ∧ s.idx.toNat < 40) ∨ (p = Phase.classify ∧ s.idx.toNat = 40)) :
      Inv (({ s with sample := Memory.write s.sample s.idx.toNat s.poll, idx := s.idx + 1 } : State).goto p) := by
    have hidx := idx_succ_toNat hi
    refine (inv_iff _).2 ⟨status.moved hs0 hp0 ⟨rfl, rfl, rfl⟩, samples.stored hp hpoll rfl hidx ?_,
      dec.acquiring hs ⟨rfl, rfl, rfl, rfl, rfl⟩ ⟨rfl, rfl, rfl⟩,
      ⟨State.placed_of_entered ⟨rfl, hw⟩ hl hp10, place.line_out, place.poll_range, place.agents⟩⟩
    exact hto.imp (fun ⟨hp, hi⟩ => ⟨hp, hidx.trans_le hi⟩) (fun ⟨hp, hi⟩ => ⟨hp, hidx.trans (by rw [hi])⟩)
  rcases State.nextSample_cases { s with sample := Memory.write s.sample s.idx.toNat s.poll } hi with
    ⟨hi, e⟩ | ⟨hi, e⟩ <;> rw [e]
  · exact next (by decide) (by decide) (.inl ⟨rfl, hi⟩)
  · exact next (by decide) (by decide) (.inr ⟨rfl, hi⟩)

/-! ### P6 to P9 -/

theorem Inv.classifies {s : State} (h : Inv s) (hw : s.popWord = none) (hp : s.phase = Phase.classify) :
    Inv (({ s with bits := classifyAll s.sample s.bits } : State).goto Phase.extract) := by
  obtain ⟨-, -, dec, -⟩ := (inv_iff s).1 h
  have hs {b : Nat} (hb : 7 ≤ b) : s.phaseIn 1 b := State.phaseIn_of hp ⟨by decide, hb⟩
  refine h.goto_decoding hw (State.phaseIn_of hp (by decide)) (by decide) ⟨rfl, rfl, rfl⟩ ⟨rfl, fun _ => rfl⟩ rfl rfl
    ⟨rfl, rfl⟩ rfl ?_
  exact ⟨dec.hum_top, dec.temp_range, dec.error_clears, fun h => absurd h.2 (by simp [Phase.extract]),
    fun _ => dec.raw_clear (hs (by decide)), fun _ => dec.result_clear (hs (by decide)),
    fun _ => dec.calc_clear (hs (by decide))⟩

theorem Inv.extracts {s : State} (h : Inv s) (hw : s.popWord = none) (hp : s.phase = Phase.extract) :
    Inv ((s.loadFields (frameHum s.bits) (frameTemp s.bits) (frameChk s.bits)).goto Phase.convert) := by
  obtain ⟨-, -, dec, -⟩ := (inv_iff s).1 h
  have hs {b : Nat} (hb : 8 ≤ b) : s.phaseIn 1 b := State.phaseIn_of hp ⟨by decide, hb⟩
  refine h.goto_decoding hw (State.phaseIn_of hp (by decide)) (by decide) ⟨rfl, rfl, rfl⟩ ⟨rfl, fun _ => rfl⟩ rfl rfl
    ⟨rfl, rfl⟩ rfl ?_
  exact ⟨dec.hum_top, dec.temp_range, dec.error_clears, fun h => absurd h.2 (by simp [Phase.convert]),
    fun h => absurd h.2 (by simp [Phase.convert]), fun _ => dec.result_clear (hs (by decide)),
    fun _ => dec.calc_clear (hs (by decide))⟩

/-- P8's values keep to the ranges of R30 and R31. -/
theorem Inv.converts {s : State} (h : Inv s) (hw : s.popWord = none) (hp : s.phase = Phase.convert) :
    Inv (((s.convertHum s.humRaw).convertTemp s.tempRaw).goto Phase.verify) := by
  obtain ⟨status, -, dec, -⟩ := (inv_iff s).1 h
  have hs {b : Nat} (hb : 9 ≤ b) : s.phaseIn 1 b := State.phaseIn_of hp ⟨by decide, hb⟩
  refine h.goto_decoding hw (State.phaseIn_of hp (by decide)) (by decide) ⟨rfl, rfl, rfl⟩ ⟨rfl, fun _ => rfl⟩ rfl rfl
    ⟨rfl, rfl⟩ rfl ?_
  have busy : s.busy = true := status.busy_iff.2 (by rw [hp]; decide)
  exact ⟨humValue_top s.humRaw, tempValue_ne s.tempRaw, fun hd => absurd ⟨busy, hd⟩ status.not_both,
    fun h => absurd h.2 (by simp [Phase.verify]), fun h => absurd h.2 (by simp [Phase.verify]),
    fun h => absurd h.2 (by simp [Phase.verify]), fun _ => dec.calc_clear (hs (by decide))⟩

/-! ### Every move -/

/-- Every stretch of a phase operation keeps the invariant. -/
theorem PhaseMove.inv {s t : State} (hm : PhaseMove s t) (h : Inv s) (hw : s.popWord = none) : Inv t := by
  have released {p : PhaseCode} (hp : s.phase = p) (hne : p ≠ Phase.wake) : s.lineOe = false :=
    h.lineOe_eq_false (hp ▸ hne)
  have acquiring {p q : PhaseCode} (hp : s.phase = p) (hpr : 1 ≤ p.toNat ∧ p.toNat ≤ 6) (hq : 1 ≤ q.toNat ∧ q.toNat ≤ 6)
      (hl : s.lineOe = false) (h4 : q.toNat ≤ 4 → p.toNat ≤ 4) : Inv (s.goto q) :=
    h.goto_acquiring hw hl (State.phaseIn_of hp hpr) hq (by rw [hp]; exact h4)
  cases hm with
  | idles hp => exact h
  | releasesLine hp hl ht ha =>
    refine Inv.issue h h.spec.poll_range ((State.placed_polling_iff (s := s.issue Pop.setInput .loop)
      (r := .p1) (by decide) hp).2 ⟨.inr (.inl ⟨rfl, rfl, .inr rfl⟩), released hp (by decide)⟩)
  | pollBegins hr hp hl ht ha => exact h.issue_poll hr hp ⟨le_rfl, (PollingPhase.bound_le hr).1⟩ (.inl ⟨rfl, rfl⟩)
  | pollReads hr hp ht => exact h.issue_poll (n := s.poll) hr hp (h.poll_bounds hr hp (.inl ht)) (.inr ⟨rfl, rfl⟩)
  | pollsAgain hr hp ha hv hn =>
    obtain ⟨hlo, hhi⟩ := h.poll_bounds hr hp (.inr ha)
    have hb := (PollingPhase.bound_le hr).2
    have hs : (s.poll + 1).toNat = s.poll.toNat + 1 := BitVec.toNat_add_of_lt (by simp; omega)
    exact h.issue_poll hr hp ⟨by omega, by omega⟩ (.inl ⟨rfl, rfl⟩)
  | pollFails hr hk hp ha hv hn => exact h.raiseError _ hw (released hp (PollingPhase.code_ne_wake hr))
  | lineIsFree hp ha hv => exact acquiring hp (by decide) (by decide) (released hp (by decide)) (by decide)
  | wakeLatches hp hl hd hh hr =>
    rcases h.wake_line hp hw with ⟨-, hm | hm⟩ | ⟨hoe, -⟩
    · exact absurd hm hd
    · exact absurd hm hh
    · exact h.issue_wake hp (.inr (.inl ⟨rfl, .inr rfl, hoe⟩))
  | wakeDrives hp hm =>
    have hoe : s.lineOe = false := by simpa [hm] using h.wake_line hp hw
    exact h.issue_wake hp (.inr (.inr (.inl ⟨rfl, rfl, hoe⟩)))
  | wakeHolds hp hm =>
    have hoe : s.lineOe = true := by simpa [hm] using h.wake_line hp hw
    exact h.issue_wake hp (.inr (.inr (.inr (.inr (.inl ⟨rfl, .inr rfl, hoe⟩)))))
  | wakeReleases hp hm =>
    have hoe : s.lineOe = true := by simpa [hm] using h.wake_line hp hw
    exact h.issue_wake hp (.inr (.inr (.inr (.inr (.inr (.inl ⟨rfl, rfl, hoe⟩))))))
  | wakeEnds hp hm =>
    have hoe : s.lineOe = false := by simpa [hm] using h.wake_line hp hw
    exact acquiring hp (by decide) (by decide) hoe (by decide)
  | ackStarts hp ha hv => exact acquiring hp (by decide) (by decide) (released hp (by decide)) (by decide)
  | ackEnds hp ha hv =>
    have hi : s.idx = 0 := BitVec.eq_of_toNat_eq (h.coherent.idx_before (State.phaseIn_of hp (by decide)))
    rw [← hi]
    exact acquiring hp (by decide) (by decide) (released hp (by decide)) (by decide)
  | syncs hp ha hv => exact acquiring hp (by decide) (by decide) (released hp (by decide)) (by decide)
  | stores hp ha hv hi => exact h.stores hw hp ha hi
  | classifies hp => exact h.classifies hw hp
  | extracts hp => exact h.extracts hw hp
  | converts hp => exact h.converts hw hp
  | verifies hp => exact h.verifies hw (released hp (by decide))

/-- The block's own move keeps the invariant. -/
theorem Inv.after_ownStep {s t : State} (h : Inv s) (ht : ownStep s = .next t) : Inv t := by
  cases hw : s.popWord with
  | none => exact (PhaseMove.of_ownStep hw ht).inv h hw
  | some w =>
    rw [h.ownStep_performs hw] at ht
    cases ht
    exact h.performed (h.placed_performed hw)

/-- Every step of the spec's agents keeps the invariant. -/
theorem Inv.after_step {s t : State} (h : Inv s) (ht : step s = .next t) : Inv t := by
  rcases step_cases h.coherent.agents ht with hown | rfl | ⟨r, rfl⟩ | ⟨-, hb, rfl⟩ | ⟨-, rfl⟩
  · exact h.consumed.after_ownStep hown
  · exact h.consumed
  · exact h.consumed.hostRead r
  · exact h.consumed.startCall hb
  · exact inv_applyReset h.consumed.coherent.agents

/-- Settles O43: the agents' events, the operations in flight and the phase moves each keep the invariant. -/
theorem stepKeepsInvariant : Obligations.StepKeepsInvariant :=
  fun _ _ h ht => h.after_step ht

/-- Settles O42: reset brings the invariant, and the state after reset is its own reset. -/
theorem resetInvariant : Obligations.ResetInvariant :=
  inv_applyReset (s := State.reset) (by simp [State.reset])

end Sys2Proof.Machine
end

section
/-! PROOFS. PHASE moves as the table of R21 says. -/

namespace Sys2Proof.Machine

/-- P5B's two ways on (R21): back to P5A, or on to P6 with 41 samples. -/
theorem State.nextSample_transition {s : State} (h : s.idx.toNat ≤ 40) :
    s.nextSample.idx.toNat = s.idx.toNat + 1 ∧
      ((s.nextSample.phase = Phase.sync ∧ s.idx.toNat < 40) ∨ (s.nextSample.phase = Phase.classify ∧ s.idx.toNat = 40)) := by
  rcases s.nextSample_cases h with ⟨hi, e⟩ | ⟨hi, e⟩ <;> rw [e]
  · exact ⟨idx_succ_toNat h, .inl ⟨rfl, hi⟩⟩
  · exact ⟨idx_succ_toNat h, .inr ⟨rfl, hi⟩⟩

/-- The checksum's verdict leads to IDLE, with Success or with its error (R191). -/
theorem State.judge_transition (s : State) : s.judge.phase = 0 ∧ (s.judge.outcome = 0 ∨ s.judge.outcome = 6) := by
  by_cases hc : s.chkCalc = s.chkRx
  · rw [State.judge_equal hc]
    exact ⟨rfl, .inl rfl⟩
  · rw [State.judge_unequal hc]
    exact ⟨rfl, .inr rfl⟩

/-- The error of a polling phase is its row's (R164, R21). -/
theorem PollingPhase.error_of_phase {r : PollingPhase} (hr : r ∈ pollingPhases) :
    (r.code = 1 ∧ r.error = 1) ∨ (r.code = 3 ∧ r.error = 2) ∨ (r.code = 4 ∧ r.error = 3) ∨ (r.code = 5 ∧ r.error = 4) ∨
      (r.code = 6 ∧ r.error = 5) := by
  revert r
  decide

/-- Settles O45: each of the block's moves that leaves its phase is a row of R21; of the events only START moves PHASE. -/
theorem phaseTransitions : Obligations.PhaseTransitions := by
  intro s t h hreset ht hne
  rcases step_cases h.coherent.agents ht with hown | rfl | ⟨r, rfl⟩ | ⟨hstart, hb, rfl⟩ | ⟨hr, rfl⟩
  case inr.inl => exact absurd rfl hne
  case inr.inr.inl => exact absurd rfl hne
  case inr.inr.inr.inl => exact .inl ⟨h.phase_of_idle hb, rfl, hstart⟩
  case inr.inr.inr.inr => exact absurd hreset hr
  cases hw : s.popWord with
  | some w =>
    rw [h.consumed.ownStep_performs hw] at hown
    cases hown
    exact absurd (s.consumed.performed_phase w) hne
  | none =>
    cases PhaseMove.of_ownStep (s := s.consumed) hw hown with
    | idles | releasesLine | pollBegins | pollReads | pollsAgain => exact absurd rfl hne
    | wakeLatches | wakeDrives | wakeHolds | wakeReleases => exact absurd rfl hne
    | lineIsFree hp =>
      exact .inr (.inl ⟨hp, rfl⟩)
    | wakeEnds hp =>
      iterate 2 right
      exact .inl ⟨hp, rfl⟩
    | ackStarts hp =>
      iterate 3 right
      exact .inl ⟨hp, rfl⟩
    | ackEnds hp =>
      iterate 4 right
      exact .inl ⟨hp, rfl, rfl⟩
    | syncs hp =>
      iterate 5 right
      exact .inl ⟨hp, rfl, rfl⟩
    | stores hp ha hv hi =>
      iterate 6 right
      obtain ⟨hidx, ⟨hto, hlt⟩ | ⟨hto, heq⟩⟩ := State.nextSample_transition
        (s := { s.consumed with sample := Memory.write s.sample s.idx.toNat s.poll }) hi
      · exact .inl ⟨hp, hto, hidx, hidx.trans_lt (Nat.succ_lt_succ hlt)⟩
      · exact .inr (.inl ⟨hp, hto, hidx, hidx.trans (congrArg Nat.succ heq)⟩)
    | classifies hp =>
      iterate 8 right
      exact .inl ⟨hp, rfl⟩
    | extracts hp =>
      iterate 9 right
      exact .inl ⟨hp, rfl⟩
    | converts hp =>
      iterate 10 right
      exact .inl ⟨hp, rfl⟩
    | verifies hp =>
      iterate 11 right
      obtain ⟨hto, ho | ho⟩ := (s.consumed.pass Config.tPost).computeChecksum.judge_transition
      · exact .inl ⟨hp, hto, ho⟩
      · exact .inr ⟨hto, .inr (.inr (.inr (.inr (.inr ⟨hp, ho⟩))))⟩
    | pollFails hr hk hp =>
      iterate 12 right
      have row := PollingPhase.error_of_phase hr
      rw [← hk, ← (show s.phase = _ from hp)] at row
      exact ⟨rfl, by tauto⟩

end Sys2Proof.Machine
end

section
/-! PROOFS. No state with the invariant is stuck, and two states alike in what the block reads go on alike. -/

namespace Sys2Proof.Machine

/-! ### Progress -/

/-- The error code of a row is an error kind's (R98). -/
theorem PollingPhase.exists_error {r : PollingPhase} (hr : r ∈ pollingPhases) : ∃ k : ProtocolError, k.code = r.error := by
  simp only [pollingPhases, List.mem_cons, List.not_mem_nil, or_false] at hr
  rcases hr with rfl | rfl | rfl | rfl | rfl
  exacts [⟨.busHung, rfl⟩, ⟨.notPresent, rfl⟩, ⟨.ackTooLong, rfl⟩, ⟨.syncTimeout, rfl⟩, ⟨.dataTimeout, rfl⟩]

/-- A polling phase inside its loop always moves, once it can go on when the awaited level comes. -/
theorem PhaseMove.exists_of_polling {s : State} {r : PollingPhase} (hr : r ∈ pollingPhases) (hp : s.phase = r.code)
    (hl : r.code = Phase.idleWait → s.micro = .loop ∨ s.micro = .ticked ∨ s.micro = .answered)
    (hmatch : s.micro = .answered → s.popRdata = r.level → ∃ t, PhaseMove s t) : ∃ t, PhaseMove s t := by
  by_cases ht : s.micro = .ticked
  · exact ⟨_, .pollReads hr hp ht⟩
  by_cases ha : s.micro = .answered
  · by_cases hv : s.popRdata = r.level
    · exact hmatch ha hv
    by_cases hn : s.poll.toNat = r.bound
    · obtain ⟨k, hk⟩ := PollingPhase.exists_error hr
      exact ⟨_, .pollFails hr hk hp ha hv hn⟩
    · exact ⟨_, .pollsAgain hr hp ha hv hn⟩
  · exact ⟨_, .pollBegins hr hp (fun hc => by simpa [ht, ha] using hl hc) ht ha⟩

/-- With an empty port the sequencer always has a move. -/
theorem Inv.exists_phaseMove {s : State} (h : Inv s) : ∃ t, PhaseMove s t := by
  rcases phase_cases s.phase with hp | hp | hp | hp | hp | hp | hp | hp | hp | hp | hp | ⟨hp, -⟩
  · exact ⟨s, .idles hp⟩
  · by_cases hl : s.micro = .loop ∨ s.micro = .ticked ∨ s.micro = .answered
    · exact PhaseMove.exists_of_polling (r := .p1) (by decide) hp (fun _ => hl)
        fun ha hv => ⟨_, .lineIsFree hp ha hv⟩
    · push Not at hl
      exact ⟨_, .releasesLine hp hl.1 hl.2.1 hl.2.2⟩
  · by_cases hl : s.micro = .latched
    · exact ⟨_, .wakeDrives hp hl⟩
    by_cases hd : s.micro = .driven
    · exact ⟨_, .wakeHolds hp hd⟩
    by_cases hh : s.micro = .held
    · exact ⟨_, .wakeReleases hp hh⟩
    by_cases hr : s.micro = .released
    · exact ⟨_, .wakeEnds hp hr⟩
    · exact ⟨_, .wakeLatches hp hl hd hh hr⟩
  · exact PhaseMove.exists_of_polling (r := .p3) (by decide) hp (fun hc => absurd hc (by decide))
      fun ha hv => ⟨_, .ackStarts hp ha hv⟩
  · exact PhaseMove.exists_of_polling (r := .p4) (by decide) hp (fun hc => absurd hc (by decide))
      fun ha hv => ⟨_, .ackEnds hp ha hv⟩
  · exact PhaseMove.exists_of_polling (r := .p5a) (by decide) hp (fun hc => absurd hc (by decide))
      fun ha hv => ⟨_, .syncs hp ha hv⟩
  · exact PhaseMove.exists_of_polling (r := .p5b) (by decide) hp (fun hc => absurd hc (by decide))
      fun ha hv => ⟨_, .stores hp ha hv (h.coherent.idx_during (State.phaseIn_of hp (by decide)))⟩
  · exact ⟨_, .classifies hp⟩
  · exact ⟨_, .extracts hp⟩
  · exact ⟨_, .converts hp⟩
  · exact ⟨_, .verifies hp⟩
  · have := State.placed_range h.coherent.placed
    omega

/-! ### What the block does not read -/

/-- The state with another last answer, another value handed to the host, another trace and another ghost time: what the block
never reads, but for the answer of the poll it stands in. -/
def State.unread (s : State) (r : Level) (d : Half) (tr : List PopWord) (c : Nat) : State :=
  { s with popRdata := r, hostData := d, trace := tr, clock := c }

/-- Two states alike in all the block reads (R44): only in a poll that has its answer does the last answer count. -/
def State.Alike (s s' : State) : Prop :=
  ∃ r d tr c, s' = s.unread r d tr c ∧ (s.micro = .answered → s.popWord = none → r = s.popRdata)

/-- Performing an operation reads none of it, and a line read answers both alike (R73). -/
theorem State.performed_unread (s : State) (w : PopWord) (r : Level) (d : Half) (tr : List PopWord) (c : Nat) :
    ∃ r' c', (s.unread r d tr c).performed w = (s.performed w).unread r' d tr c' ∧
      (w = 0x400 → r' = (s.performed w).popRdata) := by
  unfold State.performed
  split_ifs with h0 h1 h2 h4 h5
  · exact ⟨_, _, rfl, fun h => absurd (h0.symm.trans h) (by decide)⟩
  · exact ⟨_, _, rfl, fun h => absurd (h1.symm.trans h) (by decide)⟩
  · exact ⟨_, _, rfl, fun h => absurd (h2.symm.trans h) (by decide)⟩
  · exact ⟨_, _, rfl, fun _ => rfl⟩
  · exact ⟨_, _, rfl, fun h => absurd h h4⟩
  · exact ⟨_, _, rfl, fun h => absurd h h4⟩

theorem State.nextSample_unread (s : State) (r : Level) (d : Half) (tr : List PopWord) (c : Nat) :
    (s.unread r d tr c).nextSample = s.nextSample.unread r d tr c := by
  by_cases h : (s.idx + 1).toNat = Config.nSamples
  · rw [State.nextSample_of_last h, State.nextSample_of_last (s := s.unread r d tr c) h]; rfl
  · rw [State.nextSample_of_more h, State.nextSample_of_more (s := s.unread r d tr c) h]; rfl

theorem State.judge_unread (s : State) (r : Level) (d : Half) (tr : List PopWord) (c : Nat) :
    (s.unread r d tr c).judge = s.judge.unread r d tr c := by
  by_cases h : s.chkCalc = s.chkRx
  · rw [State.judge_equal h, State.judge_equal (s := s.unread r d tr c) h]; rfl
  · rw [State.judge_unequal h, State.judge_unequal (s := s.unread r d tr c) h]; rfl

/-- The loop's control leaves the port and the events alone, and enters a phase. -/
theorem State.nextSample_frame (s : State) :
    s.nextSample.trace = s.trace ∧ s.nextSample.inputs = s.inputs ∧ s.nextSample.micro = .enter := by
  by_cases h : (s.idx + 1).toNat = Config.nSamples
  · rw [State.nextSample_of_last h]; exact ⟨rfl, rfl, rfl⟩
  · rw [State.nextSample_of_more h]; exact ⟨rfl, rfl, rfl⟩

/-- So does the checksum's verdict. -/
theorem State.judge_frame (s : State) : s.judge.trace = s.trace ∧ s.judge.inputs = s.inputs ∧ s.judge.micro = .enter := by
  by_cases h : s.chkCalc = s.chkRx
  · rw [State.judge_equal h]; exact ⟨rfl, rfl, rfl⟩
  · rw [State.judge_unequal h]; exact ⟨rfl, rfl, rfl⟩

/-- A stretch of a phase operation leaves the events alone. -/
theorem PhaseMove.inputs_eq {s t : State} (h : PhaseMove s t) : t.inputs = s.inputs := by
  cases h with
  | stores => exact (State.nextSample_frame _).2.1
  | verifies => exact (State.judge_frame _).2.1
  | _ => rfl

/-- A stretch of a phase operation reads none of it either, and issues the same words. -/
theorem PhaseMove.unread {s t : State} (h : PhaseMove s t) {r : Level} (d : Half) (tr : List PopWord) (c : Nat)
    (hr : s.micro = .answered → r = s.popRdata) :
    ∃ ops c', t.trace = s.trace ++ ops ∧ PhaseMove (s.unread r d tr c) (t.unread r d (tr ++ ops) c') ∧
      (t.micro = .answered → t.popWord = none → r = t.popRdata) := by
  have quiet {c' : Nat} (htr : t.trace = s.trace) (hm : PhaseMove (s.unread r d tr c) (t.unread r d tr c'))
      (ha : t.micro ≠ .answered) :
      ∃ ops c', t.trace = s.trace ++ ops ∧ PhaseMove (s.unread r d tr c) (t.unread r d (tr ++ ops) c') ∧
        (t.micro = .answered → t.popWord = none → r = t.popRdata) :=
    ⟨[], c', by rw [htr, List.append_nil], by rwa [List.append_nil], fun h => absurd h ha⟩
  cases h with
  | idles hp => exact ⟨[], c, by rw [List.append_nil], by rw [List.append_nil]; exact .idles hp, fun hm _ => hr hm⟩
  | releasesLine hp hl ht ha => exact ⟨[_], c, rfl, .releasesLine hp hl ht ha, nofun⟩
  | pollBegins hr hp hl ht ha => exact ⟨[_], c, rfl, .pollBegins hr hp hl ht ha, nofun⟩
  | pollReads hr hp ht => exact ⟨[_], c, rfl, .pollReads hr hp ht, nofun⟩
  | pollsAgain hrow hp ha hv hn =>
    obtain rfl := hr ha
    exact ⟨[_], c, rfl, .pollsAgain hrow hp ha hv hn, nofun⟩
  | pollFails hrow hk hp ha hv hn =>
    obtain rfl := hr ha
    exact quiet (c' := c) rfl (.pollFails hrow hk hp ha hv hn) nofun
  | lineIsFree hp ha hv =>
    obtain rfl := hr ha
    exact quiet (c' := c) rfl (.lineIsFree hp ha hv) nofun
  | wakeLatches hp hl hd hh hr => exact ⟨[_], c, rfl, .wakeLatches hp hl hd hh hr, nofun⟩
  | wakeDrives hp hm => exact ⟨[_], c, rfl, .wakeDrives hp hm, nofun⟩
  | wakeHolds hp hm => exact ⟨[_], c, rfl, .wakeHolds hp hm, nofun⟩
  | wakeReleases hp hm => exact ⟨[_], c, rfl, .wakeReleases hp hm, nofun⟩
  | wakeEnds hp hm => exact quiet (c' := c) rfl (.wakeEnds hp hm) nofun
  | ackStarts hp ha hv =>
    obtain rfl := hr ha
    exact quiet (c' := c) rfl (.ackStarts hp ha hv) nofun
  | ackEnds hp ha hv =>
    obtain rfl := hr ha
    exact quiet (c' := c) rfl (.ackEnds hp ha hv) nofun
  | syncs hp ha hv =>
    obtain rfl := hr ha
    exact quiet (c' := c) rfl (.syncs hp ha hv) nofun
  | stores hp ha hv hi =>
    obtain rfl := hr ha
    obtain ⟨htr, -, hm⟩ := State.nextSample_frame { s with sample := Memory.write s.sample s.idx.toNat s.poll }
    refine quiet (c' := c) htr ?_ (by rw [hm]; decide)
    rw [← State.nextSample_unread]
    exact .stores hp ha hv hi
  | classifies hp => exact quiet (c' := c) rfl (.classifies hp) nofun
  | extracts hp => exact quiet (c' := c) rfl (.extracts hp) nofun
  | converts hp => exact quiet (c' := c) rfl (.converts hp) nofun
  | verifies hp =>
    obtain ⟨htr, -, hm⟩ := State.judge_frame (s.pass Config.tPost).computeChecksum
    refine quiet (c' := c + Config.tPost) htr ?_ (by rw [hm]; decide)
    rw [← State.judge_unread]
    exact .verifies hp

/-- Two states alike make the same move, and are alike again. -/
theorem State.Alike.exists_ownStep {s s' : State} (ha : s.Alike s') (h : Inv s) :
    ∃ t t' ops, ownStep s = .next t ∧ ownStep s' = .next t' ∧ t.Alike t' ∧ t.inputs = s.inputs ∧ t.trace = s.trace ++ ops ∧
      t'.trace = s'.trace ++ ops := by
  obtain ⟨r, d, tr, c, rfl, hr⟩ := ha
  cases hw : s.popWord with
  | none =>
    obtain ⟨t, hm⟩ := h.exists_phaseMove
    obtain ⟨ops, c', htr, hm', hr'⟩ := hm.unread d tr c fun hm => hr hm hw
    exact ⟨t, _, ops, hm.ownStep_eq hw, hm'.ownStep_eq hw, ⟨r, d, _, c', rfl, hr'⟩, hm.inputs_eq, htr, rfl⟩
  | some w =>
    have hf := h.flight hw
    obtain ⟨r', c', e, hread⟩ := s.performed_unread w r d tr c
    refine ⟨_, _, [], h.ownStep_performs hw, ownStep_of_word hw hf.mem_issuedWords, ⟨r', d, tr, c', e, fun hm _ => hread ?_⟩,
      s.performed_inputs w, ?_, ?_⟩
    · exact hf.eq_read (by simpa using hm)
    · simp
    · simp

/-- So many steps go alike, with the same words issued. -/
theorem State.Alike.exists_steps {s s' : State} (ha : s.Alike s') (h : Inv s) (hi : s.inputs = []) (n : Nat) :
    ∃ t t' ops, steps n s = .next t ∧ steps n s' = .next t' ∧ t.Alike t' ∧ t.trace = s.trace ++ ops ∧
      t'.trace = s'.trace ++ ops := by
  induction n generalizing s s' with
  | zero => exact ⟨s, s', [], rfl, rfl, ha, by simp, by simp⟩
  | succ n ih =>
    have hi' : s'.inputs = [] := by
      obtain ⟨r, d, tr, c, rfl, -⟩ := ha
      exact hi
    obtain ⟨u, u', ops, hu, hu', hau, hiu, htr, htr'⟩ := ha.exists_ownStep h
    obtain ⟨t, t', ops', ht, ht', hat, htt, htt'⟩ := ih hau (h.after_ownStep hu) (hiu.trans hi)
    refine ⟨t, t', ops ++ ops', ?_, ?_, hat, ?_, ?_⟩
    · rw [steps_succ ((step_of_no_input hi).trans hu), ht]
    · rw [steps_succ ((step_of_no_input hi').trans hu'), ht']
    · rw [htt, htr, List.append_assoc]
    · rw [htt', htr', List.append_assoc]

/-! ### START (R131) -/

/-- START clears all that an earlier call has left (R131), so idle states with the same answers to come are alike after it. -/
theorem alike_startCall {s s' : State} (h : Inv s) (h' : Inv s') (hb : s.busy = false) (hb' : s'.busy = false)
    (hi : s.inputs = s'.inputs) (hs : s.script = s'.script) (hd : s.draws = s'.draws) : s.startCall.Alike s'.startCall := by
  obtain ⟨hw, hl⟩ := h.placed_idle (h.phase_of_idle hb)
  obtain ⟨hw', hl'⟩ := h'.placed_idle (h'.phase_of_idle hb')
  refine ⟨s'.popRdata, s'.hostData, s'.trace, s'.clock, ?_, nofun⟩
  simp only [State.startCall, State.unread, hi, hs, hd, hw, hw', hl, hl', h.spec.line_out, h'.spec.line_out]

/-- Alike states have equal registers, line, word in flight and script. -/
theorem State.Alike.visible {s s' : State} (h : s.Alike s') :
    s.sameRegisters s' ∧ s.sameLine s' ∧ s.popWord = s'.popWord ∧ s.script = s'.script := by
  obtain ⟨r, d, tr, c, rfl, -⟩ := h
  exact ⟨⟨⟨rfl, rfl, rfl⟩, ⟨rfl, fun _ => rfl⟩, ⟨rfl, rfl, rfl, rfl, rfl⟩, ⟨rfl, rfl, rfl⟩, rfl, rfl, rfl⟩, ⟨rfl, rfl⟩,
    rfl, rfl⟩

/-- Settles O57: START makes the two states alike, and every later move keeps them so and issues the same words. -/
theorem callsAreStateless : Obligations.CallsAreStateless := by
  intro s s' v h h' hb hb' hi hi' hv hs hd n
  have hst := step_of_start hi hv hb
  have hst' := step_of_start hi' hv hb'
  have ha : (State.startCall { s with inputs := [] }).Alike (State.startCall { s' with inputs := [] }) := by
    have hc : s.consumed = { s with inputs := [] } := by rw [State.consumed, hi, List.tail_cons]
    have hc' : s'.consumed = { s' with inputs := [] } := by rw [State.consumed, hi', List.tail_cons]
    exact alike_startCall (hc ▸ h.consumed) (hc' ▸ h'.consumed) hb hb' rfl hs hd
  obtain ⟨t, t', ops, ht, ht', hat, htr, htr'⟩ := ha.exists_steps (h.after_step hst) rfl n
  obtain ⟨hreg, hline, hword, hscript⟩ := hat.visible
  exact ⟨t, t', ops, (steps_succ hst).trans ht, (steps_succ hst').trans ht', hreg, hline, hword, hscript, htr, htr'⟩

end Sys2Proof.Machine
end

section
/-! PROOFS. The line while an operation is in flight (20_memory.md R73, R161). -/

namespace Sys2Proof.Machine

theorem State.drivenLevel_of_input {s : State} (h : s.lineOe = false) : s.drivenLevel = none := by
  rw [State.drivenLevel, h]
  rfl

theorem State.drivenLevel_of_output {s : State} (h : s.lineOe = true) : s.drivenLevel = some s.lineOut := by
  rw [State.drivenLevel, h]
  rfl

/-- Only a polling phase reads, and the line is then released (R73, R147). -/
theorem Inv.lineOe_of_read {s : State} (h : Inv s) (hw : s.popWord = some 0x400) : s.lineOe = false := by
  cases h.flight hw with
  | read hr _ hp => exact h.lineOe_eq_false (hp ▸ PollingPhase.code_ne_wake hr)
  | _ => contradiction

/-- The wait of 20 ms stands only in P2, between SetOutput() and SetInput() (R161). -/
theorem Inv.lineOe_of_hold {s : State} (h : Inv s) (hw : s.popWord = some 0x614) : s.lineOe = true := by
  cases h.flight hw with
  | hold _ _ _ hl => exact hl
  | _ => contradiction

/-- Settles O48: what is in flight says where the sequencer stands, the place says which way the line is turned, and
the level latched is low throughout (R43). -/
theorem lineWhileInFlight : Obligations.LineWhileInFlight := by
  intro s h
  refine ⟨fun hw => State.drivenLevel_of_input (h.lineOe_of_read hw), fun hw => ?_⟩
  rw [State.drivenLevel_of_output (h.lineOe_of_hold hw), h.spec.line_out]

end Sys2Proof.Machine
end

section
/-! PROOFS. What a step can do to SAMPLE, from any state at all (20_memory.md R72, log 8). -/

namespace Sys2Proof.Machine

/-! ### Any step, the test seam (log 18) included -/

/-- A word that carries a meaning runs its instruction on the state as it is. -/
theorem exec_of_fetchWord {f : WordFormat} {w : Word} {s t : State} (h : (fetchWord f w s).outcome = .next t) :
    ∃ i, exec i s = .next t := by
  unfold fetchWord at h
  split at h
  · split at h
    · exact ⟨_, h⟩
    · cases h
  · cases h

/-- The block's own move runs an instruction, with the port emptied. -/
theorem exec_of_ownStep {s t : State} (h : ownStep s = .next t) :
    ∃ i, exec i { s with popWord := none } = .next t := by
  cases hw : s.popWord with
  | none =>
    rw [ownStep, fetchOwn, hw] at h
    rw [← hw]
    exact exec_of_fetchWord h
  | some w =>
    rw [ownStep, fetchOwn, hw] at h
    dsimp only at h
    split at h
    · exact exec_of_fetchWord h
    · cases h

/-- Every step runs an instruction, or an event settles it: the next state is then the old one without the event, with
what the host read, or reset. -/
theorem step_runs_or_settles {s t : State} (h : step s = .next t) :
    (∃ i p, exec i { s.consumed with popWord := p } = .next t) ∨ t = s.consumed ∨ (∃ r, t = s.consumed.hostRead r) ∨
      t = s.consumed.applyReset := by
  have own {u : State} (h : ownStep u = .next t) : ∃ i p, exec i { u with popWord := p } = .next t :=
    (exec_of_ownStep h).imp fun _ h => ⟨none, h⟩
  cases hi : s.inputs with
  | nil =>
    have hc : s.consumed = s := by cases s; cases hi; rfl
    rw [hc]
    exact .inl (own (step_of_no_input hi ▸ h))
  | cons e rest =>
    have hc : s.consumed = { s with inputs := rest } := by rw [State.consumed, hi, List.tail_cons]
    rw [hc]
    cases e with
    | run => exact .inl (own (step_of_run hi ▸ h))
    | stall =>
      rw [step_of_event hi] at h
      cases h
      exact .inr (.inl rfl)
    | hostWrite r v =>
      by_cases hr : r = .cmd
      · subst hr
        exact .inl ⟨_, s.popWord, step_of_cmd hi ▸ h⟩
      · rw [step_of_other_write hi hr] at h
        cases h
        exact .inr (.inl rfl)
    | hostRead r =>
      rw [step_of_hostRead hi] at h
      cases h
      exact .inr (.inr (.inl ⟨r, rfl⟩))
    | reset =>
      rw [step_of_event hi] at h
      cases h
      exact .inr (.inr (.inr rfl))
    | inject f w =>
      rw [step_of_event hi] at h
      exact .inl ((exec_of_fetchWord h).imp fun _ h => ⟨s.popWord, h⟩)

/-! ### What an instruction can do to SAMPLE -/

/-- SAMPLE is kept, cleared (R45, R131), or written at IDX, an index of the space (R61, R173). -/
inductive SampleMove (s t : State) : Prop
  | kept (h : t.sample = s.sample)
  | cleared (h : t.sample = [])
  | written (c : Byte) (hi : Memory.inSpace s.idx.toNat = true) (h : t.sample = Memory.write s.sample s.idx.toNat c)

theorem SampleMove.wf {s t : State} (h : SampleMove s t) (hs : Memory.wf s.sample = true) : Memory.wf t.sample = true := by
  cases h with
  | kept h => rwa [h]
  | cleared h => rw [h]; rfl
  | written c hi h => rw [h]; exact Memory.wf_write _ _ c hs hi

@[simp] theorem State.nextSample_sample (s : State) : s.nextSample.sample = s.sample := by
  unfold State.nextSample
  dsimp only
  split <;> rfl

@[simp] theorem State.judge_sample (s : State) : s.judge.sample = s.sample := by
  unfold State.judge
  split <;> rfl

theorem State.ifRunning_sample {s : State} {f : State → State} (hf : (f s).sample = s.sample) :
    (s.ifRunning f).sample = s.sample := by
  unfold State.ifRunning
  split
  · exact hf
  · rfl

/-- A store succeeds at an index of the space only (R61). -/
theorem State.storeSample_eq_some {s u : State} {c : Byte} (h : s.storeSample c = some u) :
    Memory.inSpace s.idx.toNat = true ∧ u = { s with sample := Memory.write s.sample s.idx.toNat c } := by
  unfold State.storeSample at h
  split at h
  · cases h
    exact ⟨‹_›, rfl⟩
  · cases h

/-- A polling phase touches SAMPLE only in its way on (R147). -/
theorem SampleMove.of_pollPhase {s t : State} {level : Level} {bound : Byte} {k : ProtocolError}
    {onMatch : State → Host.Outcome State Fault Refusal} (h : s.pollPhase level bound k onMatch = .next t)
    (hmatch : onMatch s = .next t → SampleMove s t) : SampleMove s t := by
  rcases State.pollPhase_cases (s := s) (level := level) (bound := bound) (k := k) (onMatch := onMatch) with
    ⟨-, -, e⟩ | ⟨-, e⟩ | ⟨-, -, e⟩ | ⟨-, -, -, e⟩ | ⟨-, -, -, e⟩ <;> rw [e] at h
  case inr.inr.inl => exact hmatch h
  all_goals
    cases h
    exact .kept rfl

/-- Where one state is answered, it alone is to be looked at. -/
theorem SampleMove.of_next {s t u : State} (h : Host.Outcome.next (φ := Fault) (ρ := Refusal) u = .next t)
    (hu : SampleMove s u) : SampleMove s t := by
  cases h
  exact hu

/-- P5B's way on writes the count at IDX (R173). -/
theorem SampleMove.of_takeSample {s t : State} (h : s.takeSample = .next t) : SampleMove s t := by
  unfold State.takeSample at h
  split at h
  · rename_i u hu
    obtain ⟨hi, rfl⟩ := State.storeSample_eq_some hu
    cases h
    exact .written s.poll hi (State.nextSample_sample _)
  · cases h

theorem SampleMove.of_execPulse {s t : State} {c : Byte} (h : execPulse c s = .next t) : SampleMove s t := by
  unfold execPulse at h
  split at h
  · rename_i u hu
    obtain ⟨hi, rfl⟩ := State.storeSample_eq_some hu
    cases h
    exact .written c hi rfl
  · cases h

theorem SampleMove.of_execRead {s t : State} {i : BitVec 7} (h : execRead i s = .next t) : SampleMove s t := by
  unfold execRead at h
  split at h <;> cases h
  · exact .kept rfl
  · exact .cleared rfl

theorem SampleMove.of_execIdleWait {s t : State} (h : execIdleWait s = .next t) : SampleMove s t := by
  by_cases hl : s.micro = .loop ∨ s.micro = .ticked ∨ s.micro = .answered
  · rw [execIdleWait_of_loop hl] at h
    exact .of_pollPhase h fun h => .of_next h (.kept rfl)
  · push Not at hl
    obtain ⟨hl, ht, ha⟩ := hl
    rw [execIdleWait_of_not_loop hl ht ha] at h
    exact .of_next h (.kept rfl)

theorem SampleMove.of_execWake {s t : State} (h : execWake s = .next t) : SampleMove s t := by
  unfold execWake at h
  split at h <;> exact .of_next h (.kept rfl)

/-- Only READ (R131), MEASURE (R173) and PULSE (log 10) do more than keep SAMPLE. -/
theorem SampleMove.of_exec {i : Instr} {s t : State} (h : exec i s = .next t) : SampleMove s t := by
  cases i with
  | read i => exact .of_execRead (i := i) h
  | pulse => exact .of_execPulse h
  | measure => exact .of_pollPhase h .of_takeSample
  | idleWait => exact .of_execIdleWait h
  | wake => exact .of_execWake h
  | ackStart | ackEnd | sync => exact .of_pollPhase h fun h => .of_next h (.kept rfl)
  | verify => exact .of_next h (.kept (State.judge_sample _))
  | checksum8 => exact .of_next h (.kept (State.ifRunning_sample (State.judge_sample _)))
  | success | busHung | notPresent | ackTooLong | syncTimeout | dataTimeout | checksumMismatch =>
    exact .of_next h (.kept (State.ifRunning_sample rfl))
  | phaseReserved11 | phaseReserved12to15 | popReserved => cases h
  | _ => exact .of_next h (.kept rfl)

/-! ### The step -/

/-- Every step keeps SAMPLE, clears it, or writes it at IDX (R72). -/
theorem SampleMove.of_step {s t : State} (h : step s = .next t) : SampleMove s t := by
  rcases step_runs_or_settles h with ⟨i, p, hx⟩ | rfl | ⟨r, rfl⟩ | rfl
  · cases SampleMove.of_exec hx with
    | kept h => exact .kept h
    | cleared h => exact .cleared h
    | written c hi h => exact .written c hi h
  · exact .kept rfl
  · exact .kept rfl
  · exact .cleared rfl

/-- Settles O50: a clear leaves the empty list, and a write at an index of the space keeps the form. -/
theorem sampleSpaceCanonical : Obligations.SampleSpaceCanonical :=
  fun _ _ hs h => (SampleMove.of_step h).wf hs

end Sys2Proof.Machine
end

section
/-! PROOFS. The encodings (30_encoding.md R90 to R101, R40): a word is its fields side by side, the decoder takes it apart into
them and the encoder puts it together again. -/

namespace Sys2Proof

/-! ### Fields of a word -/

theorem field_append_low {m n : Nat} (a : BitVec m) (b : BitVec n) {lo k : Nat} (hk : lo + k ≤ n) (h : m + n ≤ 48) :
    field ((a ++ b).setWidth 48) lo k = field (b.setWidth 48) lo k := by
  rw [field_setWidth _ lo k h (by omega), field_setWidth b lo k (by omega) hk, BitVec.extractLsb'_append_eq_of_add_le hk]

theorem field_append_high {m n : Nat} (a : BitVec m) (b : BitVec n) {lo k : Nat} (hlo : n ≤ lo) (hk : lo + k ≤ m + n)
    (h : m + n ≤ 48) : field ((a ++ b).setWidth 48) lo k = field (a.setWidth 48) (lo - n) k := by
  rw [field_setWidth _ lo k h hk, field_setWidth a (lo - n) k (by omega) (by omega), BitVec.extractLsb'_append_eq_of_le hlo]

theorem field_whole {n : Nat} (v : BitVec n) (h : n ≤ 48) : field (v.setWidth 48) 0 n = v := by
  rw [field_setWidth v 0 n h (by omega), BitVec.extractLsb'_eq_self]

/-- Two fields side by side are one field. -/
theorem field_append_field (w : Word) (lo m n : Nat) : field w (lo + n) m ++ field w lo n = field w lo (m + n) :=
  BitVec.extractLsb'_append_extractLsb'_eq_extractLsb' rfl

/-- A word without a bit above its low n is those n bits. -/
theorem setWidth_field_of_lt {w : Word} {n : Nat} (h : w.toNat < 2 ^ n) : (field w 0 n).setWidth 48 = w := by
  refine BitVec.eq_of_toNat_eq ?_
  rw [BitVec.toNat_setWidth, field, BitVec.extractLsb'_toNat, Nat.shiftRight_zero, Nat.mod_eq_of_lt h,
    Nat.mod_eq_of_lt w.isLt]

/-- A field of one bit is 0 exactly when the bit is. -/
theorem field_one_eq_zero_iff (w : Word) (i : Nat) : field w i 1 = 0#1 ↔ w.getLsbD i = false := by
  have hbit : field w i 1 = BitVec.ofBool (w.getLsbD i) := by
    refine BitVec.eq_of_getLsbD_eq fun j hj => ?_
    obtain rfl : j = 0 := by omega
    simp [field]
  rw [hbit]
  cases w.getLsbD i <;> decide

/-! ### Decoding an encoded word -/

/-- R101: the byte of a host command. -/
theorem decodeHostCmd_append (i : BitVec 7) (b : BitVec 1) :
    decodeHostCmd ((i ++ b).setWidth 48) = if b = 1#1 then .read i else .nocmd i := by
  rw [decodeHostCmd, field_append_low i b (by decide) (by decide), field_whole b (by decide),
    field_append_high i b (by decide) (by decide) (by decide), field_whole i (by decide)]

/-- R100: the op of a port word. -/
theorem field_popWordOf_op (op : BitVec 3) (n : Byte) : field ((popWordOf op n).setWidth 48) 8 3 = op := by
  rw [popWordOf, field_append_high op n (by decide) (by decide) (by decide), field_whole op (by decide)]

/-- R100: the n of a port word. -/
theorem field_popWordOf_n (op : BitVec 3) (n : Byte) : field ((popWordOf op n).setWidth 48) 0 8 = n := by
  rw [popWordOf, field_append_low op n (by decide) (by decide), field_whole n (by decide)]

/-- In its format the word of an instruction is read as that instruction. -/
theorem decodeIn_encode (i : Instr) : decodeIn i.format (encode i) = .ok i := by
  cases i with
  | read i => exact congrArg Decoded.ok (decodeHostCmd_append i 1#1)
  | nocmd i => exact congrArg Decoded.ok (decodeHostCmd_append i 0#1)
  | setInput n | setOutput n | driveLow n | driveHigh n | lineRead n | waitUs n | waitMs n | popReserved n =>
    simp only [Instr.format, encode, decodeIn, decodePop, field_popWordOf_op, field_popWordOf_n]
    rfl
  | pulse | checksum8 => simp only [Instr.format, encode, decodeIn, field_whole _ (show 8 ≤ 48 by decide)]
  | frame41 | field16Hum | field16Temp =>
    simp (disch := decide) [Instr.format, encode, decodeIn, field_append_low, field_append_high, field_whole, -Nat.reduceAdd]
  | status o n d b => revert o n d b; decide
  | phaseReserved12to15 r => revert r; decide
  | _ => rfl

/-- Every instruction's word fits its format and lies in its row of the table. -/
theorem encodedInRow (i : Instr) : Laws.EncodedInRow.Statement i := by
  cases i
  exacts [Laws.EncodedInRow.read _, Laws.EncodedInRow.nocmd _, Laws.EncodedInRow.idle, Laws.EncodedInRow.idleWait,
    Laws.EncodedInRow.wake, Laws.EncodedInRow.ackStart, Laws.EncodedInRow.ackEnd, Laws.EncodedInRow.sync,
    Laws.EncodedInRow.measure, Laws.EncodedInRow.classify, Laws.EncodedInRow.extract, Laws.EncodedInRow.convert,
    Laws.EncodedInRow.verify, Laws.EncodedInRow.phaseReserved11, Laws.EncodedInRow.phaseReserved12to15 _,
    Laws.EncodedInRow.setInput _, Laws.EncodedInRow.setOutput _, Laws.EncodedInRow.driveLow _,
    Laws.EncodedInRow.driveHigh _, Laws.EncodedInRow.lineRead _, Laws.EncodedInRow.waitUs _, Laws.EncodedInRow.waitMs _,
    Laws.EncodedInRow.popReserved _, Laws.EncodedInRow.pulse _, Laws.EncodedInRow.frame41 _ _ _ _,
    Laws.EncodedInRow.field16Hum _ _, Laws.EncodedInRow.field16Temp _ _, Laws.EncodedInRow.checksum8 _,
    Laws.EncodedInRow.status _ _ _ _, Laws.EncodedInRow.success, Laws.EncodedInRow.busHung, Laws.EncodedInRow.notPresent,
    Laws.EncodedInRow.ackTooLong, Laws.EncodedInRow.syncTimeout, Laws.EncodedInRow.dataTimeout,
    Laws.EncodedInRow.checksumMismatch, Laws.EncodedInRow.noOutcome]

/-- Settles O1: the word fits the format, and its fields are the operands. -/
theorem decodeOfEncode : Obligations.DecodeOfEncode :=
  fun i => (decode_of_lt (encodedInRow i).1).trans (decodeIn_encode i)

/-! ### Encoding a decoded word -/

/-- The values of an op and of an outcome code (R98, R100). -/
theorem bitVec3_cases (c : BitVec 3) : c = 0 ∨ c = 1 ∨ c = 2 ∨ c = 3 ∨ c = 4 ∨ c = 5 ∨ c = 6 ∨ c = 7 := by
  revert c
  decide

/-- R101: both commands keep bits 7:1, and bit 0 says which of the two it is. -/
theorem encode_decodeHostCmd (w : Word) :
    encode (decodeHostCmd w) = (field w 0 8).setWidth 48 ∧ (decodeHostCmd w).format = .hostcmd := by
  rw [← field_append_field w 0 7 1, decodeHostCmd]
  rcases BitVec.eq_zero_or_eq_one (field w 0 1) with hb | hb <;> rw [hb]
  · exact ⟨rfl, rfl⟩
  · exact ⟨rfl, rfl⟩

/-- R99: each of the 16 codes. -/
theorem encode_decodePhase {w : Word} (h : w.toNat < 2 ^ 4) : encode (decodePhase w) = w ∧ (decodePhase w).format = .phase := by
  have code : ∀ p : PhaseCode,
      encode (decodePhase (p.setWidth 48)) = p.setWidth 48 ∧ (decodePhase (p.setWidth 48)).format = .phase := by decide
  rw [← setWidth_field_of_lt h]
  exact code _

/-- R100: each op, with its n. -/
theorem encode_decodePop (w : Word) :
    encode (decodePop w) = (field w 0 11).setWidth 48 ∧ (decodePop w).format = .pop := by
  rw [← field_append_field w 0 3 8, decodePop, Nat.zero_add]
  rcases bitVec3_cases (field w 8 3) with h | h | h | h | h | h | h | h <;>
    · rw [h]
      exact ⟨rfl, rfl⟩

/-- R98: each of the 8 codes. -/
theorem encode_decodeOutcome (w : Word) :
    encode (decodeOutcome w) = (field w 0 3).setWidth 48 ∧ (decodeOutcome w).format = .outcome := by
  rw [decodeOutcome]
  rcases bitVec3_cases (field w 0 3) with h | h | h | h | h | h | h | h <;>
    · rw [h]
      exact ⟨rfl, rfl⟩

/-- R40: a STATUS byte is its four fields and the two bits that read 0. -/
theorem encode_of_decodeHostReg {w : Word} {i : Instr} (h : decodeHostReg w = .ok i) :
    encode i = (field w 0 8).setWidth 48 ∧ i.format = .hostreg := by
  have parts : field w 7 1 ++ field w 4 3 ++ field w 3 1 ++ field w 2 1 ++ field w 1 1 ++ field w 0 1 = field w 0 8 := by
    rw [field_append_field w 4 1 3, field_append_field w 3 4 1, field_append_field w 2 5 1, field_append_field w 1 6 1]
    exact field_append_field w 0 7 1
  unfold decodeHostReg at h
  split at h
  · rename_i hz
    cases h
    rw [hz.1, hz.2] at parts
    exact ⟨congrArg (BitVec.setWidth 48) parts, rfl⟩
  · cases h

/-- A word that its format admits is the word of the instruction it is read as. -/
theorem encode_of_decodeIn {f : WordFormat} {w : Word} {i : Instr} (h : w.toNat < 2 ^ f.width) (hd : decodeIn f w = .ok i) :
    encode i = w ∧ i.format = f := by
  have whole {j : Instr} (hj : encode j = (field w 0 f.width).setWidth 48 ∧ j.format = f) : encode j = w ∧ j.format = f := by
    rwa [setWidth_field_of_lt h] at hj
  cases f with
  | hostcmd => cases hd; exact whole (encode_decodeHostCmd w)
  | phase => cases hd; exact encode_decodePhase h
  | pop => cases hd; exact whole (encode_decodePop w)
  | outcome => cases hd; exact whole (encode_decodeOutcome w)
  | hostreg => exact whole (encode_of_decodeHostReg hd)
  | pulse | checksum8 => cases hd; exact whole ⟨rfl, rfl⟩
  | field16Hum | field16Temp =>
    cases hd
    exact whole ⟨congrArg (BitVec.setWidth 48) (field_append_field w 0 1 15), rfl⟩
  | frame41 =>
    cases hd
    refine whole ⟨congrArg (BitVec.setWidth 48) ?_, rfl⟩
    rw [field_append_field w 24 1 16, field_append_field w 8 17 16]
    exact field_append_field w 0 33 8

/-- Settles O2: the fields the decoder reads make up the whole word. -/
theorem encodeOfDecode : Obligations.EncodeOfDecode := by
  intro f w i hd
  by_cases h : w.toNat < 2 ^ f.width
  · exact encode_of_decodeIn h (decode_of_lt h ▸ hd)
  · rw [decode, if_neg h] at hd
    cases hd

/-! ### The opcode table -/

/-- Two rows of one format that share a word are one row: where both masks look, the patterns differ. -/
theorem opcodeTable_disjoint : ∀ r ∈ opcodeTable, ∀ q ∈ opcodeTable, r.format = q.format →
    r.pattern &&& q.mask = q.pattern &&& r.mask → r = q := by
  decide

/-- Settles O3: the word is the instruction's, which lies in its row, and no other row of the format shares it. -/
theorem decodeFollowsTable : Obligations.DecodeFollowsTable := by
  intro f w i hd
  obtain ⟨rfl, rfl⟩ := encodeOfDecode f w i hd
  obtain ⟨-, r, hr, hm, hf, hw⟩ := encodedInRow i
  refine ⟨⟨r, hr, hf, hw, hm⟩, fun q hq hqf hqw => ?_⟩
  have same : q.pattern &&& r.mask = r.pattern &&& q.mask := by
    rw [← hqw, ← hw, BitVec.and_assoc, BitVec.and_assoc, BitVec.and_comm q.mask]
  rw [opcodeTable_disjoint q hq r hr (hqf.trans hf.symm) same, hm]

/-- R40: a STATUS byte is refused for its bits 3 and 7 alone. -/
theorem decodeHostReg_rejected_iff (w : Word) :
    (∃ e, decodeHostReg w = .rejected e) ↔ (w.getLsbD 3 = true ∨ w.getLsbD 7 = true) := by
  have reserved : (w.getLsbD 3 = true ∨ w.getLsbD 7 = true) ↔ ¬ (field w 3 1 = 0#1 ∧ field w 7 1 = 0#1) := by
    rw [field_one_eq_zero_iff, field_one_eq_zero_iff, not_and_or, Bool.not_eq_false, Bool.not_eq_false]
  rw [reserved, decodeHostReg]
  split
  · exact iff_of_false nofun (not_not_intro ‹_›)
  · exact iff_of_true ⟨_, rfl⟩ ‹_›

/-- Settles O4: a word that fits its format is refused only as a STATUS byte. -/
theorem decodeRefuses : Obligations.DecodeRefuses := by
  intro f w
  by_cases h : w.toNat < 2 ^ f.width
  · have hn : ¬ 2 ^ f.width ≤ w.toNat := by omega
    rw [decode_of_lt h, or_iff_right hn]
    cases f with
    | hostreg => simpa only [decodeIn, true_and] using decodeHostReg_rejected_iff w
    | _ => simp [decodeIn]
  · rw [decode, if_neg h]
    exact iff_of_true ⟨_, rfl⟩ (.inl (Nat.le_of_not_lt h))

/-- Settles O5: each word is the encoding of its instruction. -/
theorem wordsOfTheTables : Obligations.WordsOfTheTables :=
  ⟨decodeOfEncode (.read 0), decodeOfEncode (.nocmd 0b1111111), decodeOfEncode .measure, decodeOfEncode .verify,
    decodeOfEncode (.setInput 0), decodeOfEncode (.lineRead 0), decodeOfEncode (.waitUs 2), decodeOfEncode (.waitMs 20),
    decodeOfEncode (.field16Temp 1 200), decodeOfEncode (.status 6 0 1 0), decodeOfEncode .ackTooLong,
    decodeOfEncode .noOutcome⟩

end Sys2Proof
end

section
/-! PROOFS. What stops a step, and that under the invariant nothing does (30_encoding.md R103; 93_implementation_defined.md U6). -/

namespace Sys2Proof

/-! ### Words as numbers -/

/-- Two strings side by side, as a number. -/
theorem toNat_append_eq_add {m n : Nat} (a : BitVec m) (b : BitVec n) : (a ++ b).toNat = a.toNat * 2 ^ n + b.toNat := by
  rw [BitVec.toNat_append, ← Nat.shiftLeft_add_eq_or_of_lt b.isLt, Nat.shiftLeft_eq]

/-- A port word as a number (R100). -/
theorem toNat_popWordOf (op : BitVec 3) (n : Byte) :
    ((popWordOf op n).setWidth 48 : Word).toNat = op.toNat * 256 + n.toNat := by
  rw [BitVec.toNat_setWidth_of_le (by decide)]
  exact toNat_append_eq_add op n

/-- A word that is read as an instruction is that instruction's word, as a number. -/
theorem toNat_encode_of_decode {f : WordFormat} {n : Nat} {v : BitVec n} {i : Instr} (hn : n ≤ 48)
    (hd : decode f (v.setWidth 48) = .ok i) : (encode i).toNat = v.toNat := by
  rw [(encodeOfDecode f _ i hd).1, BitVec.toNat_setWidth_of_le hn]

/-- A port word is well formed exactly when its n is 0 or it is no line operation (R100, R103). -/
theorem Instr.wellFormed_iff_of_pop {i : Instr} (hf : i.format = .pop) :
    i.wellFormed = true ↔ ((encode i).toNat / 256 ≤ 4 → (encode i).toNat % 256 = 0) := by
  have number {op : BitVec 3} {n : Byte} (he : encode i = (popWordOf op n).setWidth 48) :
      (encode i).toNat / 256 = op.toNat ∧ (encode i).toNat % 256 = n.toNat := by
    have := n.isLt
    rw [he, toNat_popWordOf]
    omega
  have zero (n : Byte) : (n == 0) = true ↔ n.toNat = 0 := by rw [beq_iff_eq, ← BitVec.toNat_inj]; rfl
  cases i with
  | setInput n | setOutput n | driveLow n | driveHigh n | lineRead n =>
    obtain ⟨hop, hn⟩ := number rfl
    rw [hop, hn, wellFormed, zero]
    exact ⟨fun h _ => h, fun h => h (by decide)⟩
  | waitUs n | waitMs n | popReserved n =>
    obtain ⟨hop, -⟩ := number rfl
    rw [hop]
    exact iff_of_true rfl fun h => absurd h (by decide)
  | _ => cases hf

namespace Machine

/-! ### What an instruction answers -/

/-- The instructions that stop, with their faults (R103, R61). -/
inductive InstrStop (s : State) : Instr → Fault → Prop
  | reserved11 : InstrStop s .phaseReserved11 .reservedPhase
  | reserved12to15 (r : BitVec 2) : InstrStop s (.phaseReserved12to15 r) .reservedPhase
  | popReserved (n : Byte) : InstrStop s (.popReserved n) .reservedPop
  | measure (hi : 40 < s.idx.toNat) : InstrStop s .measure .sampleIndex
  | pulse (c : Byte) (hi : 40 < s.idx.toNat) : InstrStop s (.pulse c) .sampleIndex

/-- A polling phase answers a next state, or what its way on answers (R147). -/
theorem State.pollPhase_next_or_onMatch (s : State) (level : Level) (bound : Byte) (k : ProtocolError)
    (onMatch : State → Host.Outcome State Fault Refusal) :
    (∃ t, s.pollPhase level bound k onMatch = .next t) ∨ s.pollPhase level bound k onMatch = onMatch s := by
  rcases State.pollPhase_cases (s := s) (level := level) (bound := bound) (k := k) (onMatch := onMatch) with
    ⟨-, -, e⟩ | ⟨-, e⟩ | ⟨-, -, e⟩ | ⟨-, -, -, e⟩ | ⟨-, -, -, e⟩
  case inr.inr.inl => exact .inr e
  all_goals exact .inl ⟨_, e⟩

/-- Every instruction answers a next state but for those of InstrStop; none is refused. -/
theorem exec_next_or_stop (i : Instr) (s : State) :
    (∃ t, exec i s = .next t) ∨ ∃ f, exec i s = .fault f ∧ InstrStop s i f := by
  have polls {level : Level} {bound : Byte} {k : ProtocolError} {onMatch : State → State}
      (he : exec i s = s.pollPhase level bound k fun t => .next (onMatch t)) : ∃ t, exec i s = .next t := by
    rw [he]
    exact (s.pollPhase_next_or_onMatch level bound k _).elim id fun e => ⟨_, e⟩
  cases i with
  | phaseReserved11 => exact .inr ⟨_, rfl, .reserved11⟩
  | phaseReserved12to15 r => exact .inr ⟨_, rfl, .reserved12to15 r⟩
  | popReserved n => exact .inr ⟨_, rfl, .popReserved n⟩
  | idleWait =>
    by_cases hl : s.micro = .loop ∨ s.micro = .ticked ∨ s.micro = .answered
    · exact .inl (polls (execIdleWait_of_loop hl))
    · push Not at hl
      exact .inl ⟨_, execIdleWait_of_not_loop hl.1 hl.2.1 hl.2.2⟩
  | wake =>
    left
    rw [exec, execWake]
    split <;> exact ⟨_, rfl⟩
  | ackStart | ackEnd | sync => exact .inl (polls rfl)
  | measure =>
    rw [exec, execMeasure]
    rcases s.pollPhase_next_or_onMatch false Config.bData .dataTimeout State.takeSample with h | h
    · exact .inl h
    · rw [h, State.takeSample]
      by_cases hi : s.idx.toNat ≤ 40
      · rw [State.storeSample_some hi]
        exact .inl ⟨_, rfl⟩
      · rw [State.storeSample_none (Nat.lt_of_not_le hi)]
        exact .inr ⟨_, rfl, .measure (Nat.lt_of_not_le hi)⟩
  | pulse c =>
    rw [exec, execPulse]
    by_cases hi : s.idx.toNat ≤ 40
    · rw [State.storeSample_some hi]
      exact .inl ⟨_, rfl⟩
    · rw [State.storeSample_none (Nat.lt_of_not_le hi)]
      exact .inr ⟨_, rfl, .pulse c (Nat.lt_of_not_le hi)⟩
  | _ => exact .inl ⟨_, rfl⟩

theorem exec_ne_refused (i : Instr) (s : State) (r : Refusal) : exec i s ≠ .refused r := by
  rcases exec_next_or_stop i s with ⟨t, h⟩ | ⟨f, h, -⟩ <;> simp [h]

theorem InstrStop.of_exec {i : Instr} {s : State} {f : Fault} (h : exec i s = .fault f) : InstrStop s i f := by
  rcases exec_next_or_stop i s with ⟨t, e⟩ | ⟨g, e, hs⟩ <;> rw [e] at h <;> cases h
  exact hs

/-! ### What the block's own move answers -/

/-- A port word always decodes: an op and an n (R100). -/
theorem exists_decode_pop (w : PopWord) : ∃ i, decode .pop (w.setWidth 48) = .ok i :=
  ⟨_, decode_of_lt (setWidth_lt w (by decide))⟩

/-- A line operation with an n stops at the port (R100, R103). -/
theorem fetchOwn_illFormed {s : State} {w : PopWord} (h : s.popWord = some w) (hop : w.toNat / 256 ≤ 4)
    (hn : w.toNat % 256 ≠ 0) : fetchOwn s = .stop .illFormed := by
  obtain ⟨i, hd⟩ := exists_decode_pop w
  have hm : waitMeant w = true := (waitMeant_iff w).2 ⟨by omega, by omega⟩
  have hf : i.wellFormed = false := by
    rw [← Bool.not_eq_true, Instr.wellFormed_iff_of_pop (encodeOfDecode _ _ _ hd).2, toNat_encode_of_decode (by decide) hd]
    exact fun h => hn (h hop)
  simp [fetchOwn, h, hm, fetchWord, hd, hf]

/-- With an empty port only P5B and the reserved codes stop (R61, R103). -/
theorem fault_of_phase {s : State} {f : Fault} (hw : s.popWord = none) (h : ownStep s = .fault f) :
    (f = .reservedPhase ∧ 11 ≤ s.phase.toNat) ∨ (f = .sampleIndex ∧ s.phase = 6 ∧ 40 < s.idx.toNat) := by
  obtain ⟨i, hd⟩ : ∃ i, decode .phase (s.phase.setWidth 48) = .ok i := ⟨_, decode_of_lt (setWidth_lt s.phase (by decide))⟩
  obtain ⟨-, hformat⟩ := encodeOfDecode _ _ _ hd
  have hcode := toNat_encode_of_decode (by decide) hd
  rw [ownStep_of_phase hw hd] at h
  cases InstrStop.of_exec h with
  | reserved11 => exact .inl ⟨rfl, hcode ▸ Nat.le_refl 11⟩
  | reserved12to15 r =>
    have hr : ∀ r, 11 ≤ (encode (.phaseReserved12to15 r)).toNat := by decide
    exact .inl ⟨rfl, hcode ▸ hr r⟩
  | measure hi => exact .inr ⟨rfl, BitVec.eq_of_toNat_eq hcode.symm, hi⟩
  | popReserved | pulse => cases hformat

/-- With a word in flight only the words that carry no meaning stop (R103, logs 13, 14). -/
theorem fault_of_word {s : State} {w : PopWord} {f : Fault} (hw : s.popWord = some w) (h : ownStep s = .fault f) :
    (f = .reservedPop ∧ w.toNat / 256 = 7) ∨ (f = .illFormed ∧ w.toNat / 256 ≤ 4 ∧ w.toNat % 256 ≠ 0) ∨
      (f = .foreignWait ∧
        ((w.toNat / 256 = 5 ∧ w.toNat % 256 ≠ 2) ∨ (w.toNat / 256 = 6 ∧ w.toNat % 256 ≠ 20))) := by
  by_cases hm : waitMeant w = true
  · by_cases hl : w.toNat / 256 ≤ 4 ∧ w.toNat % 256 ≠ 0
    · rw [ownStep, fetchOwn_illFormed hw hl.1 hl.2] at h
      cases h
      exact .inr (.inl ⟨rfl, hl⟩)
    · obtain ⟨i, hd⟩ := exists_decode_pop w
      obtain ⟨-, hformat⟩ := encodeOfDecode _ _ _ hd
      have hnumber := toNat_encode_of_decode (by decide) hd
      have hf : i.wellFormed = true := (Instr.wellFormed_iff_of_pop hformat).2 (by rw [hnumber]; simpa using hl)
      rw [ownStep, fetchOwn_word hw hm hd hf] at h
      cases InstrStop.of_exec h with
      | popReserved n =>
        have := n.isLt
        have h7 : 7 * 256 + n.toNat = w.toNat := (toNat_popWordOf 7 n).symm.trans hnumber
        exact .inl ⟨rfl, by omega⟩
      | _ => cases hformat
  · rw [Bool.not_eq_true] at hm
    rw [ownStep, fetchOwn_foreignWait hw hm] at h
    cases h
    refine .inr (.inr ⟨rfl, ?_⟩)
    rw [← Bool.not_eq_true, waitMeant_iff] at hm
    omega

/-! ### What a step answers -/

theorem State.consumed_of_cons {s : State} {e : Event} {rest : List Event} (h : s.inputs = e :: rest) :
    s.consumed = { s with inputs := rest } := by
  rw [State.consumed, h, List.tail_cons]

/-- A step of the spec's agents is the block's own move, or an event, which always answers a next state. -/
theorem step_own_or_next {s : State} (ha : ∀ e ∈ s.inputs, e.ofAgent = true) :
    step s = ownStep s.consumed ∨ ∃ t, step s = .next t := by
  cases hi : s.inputs with
  | nil =>
    have hc : s.consumed = s := by cases s; cases hi; rfl
    exact .inl (by rw [hc, step_of_no_input hi])
  | cons e rest =>
    cases e with
    | run => exact .inl (by rw [State.consumed_of_cons hi, step_of_run hi])
    | stall | reset => exact .inr ⟨_, step_of_event hi⟩
    | hostWrite r v =>
      by_cases hr : r = .cmd
      · subst hr
        rcases exec_next_or_stop (if v.getLsbD 0 = true then .read (v.extractLsb' 1 7) else .nocmd (v.extractLsb' 1 7))
          { s with inputs := rest } with ⟨t, ht⟩ | ⟨f, -, hs⟩
        · exact .inr ⟨t, (step_of_cmd hi).trans ht⟩
        · split at hs <;> cases hs
      · exact .inr ⟨_, step_of_other_write hi hr⟩
    | hostRead r => exact .inr ⟨_, step_of_hostRead hi⟩
    | inject f w => simp [hi, Event.ofAgent] at ha

/-- No step is refused, the test seam included: no instruction is. -/
theorem step_ne_refused (s : State) (r : Refusal) : step s ≠ .refused r := by
  rw [step_eq_outcome]
  cases fetch s with
  | instr i t => exact exec_ne_refused i t r
  | settled | stop => exact nofun

/-- The block always has a move under the invariant (R133). -/
theorem Inv.exists_ownStep {s : State} (h : Inv s) : ∃ t, ownStep s = .next t := by
  cases hw : s.popWord with
  | none =>
    obtain ⟨t, hm⟩ := h.exists_phaseMove
    exact ⟨t, hm.ownStep_eq hw⟩
  | some w => exact ⟨_, h.ownStep_performs hw⟩

/-- Settles O44: an event always answers a next state, and the block always has a move. -/
theorem stepAlwaysAnswers : Obligations.StepAlwaysAnswers := by
  intro s h
  rcases step_own_or_next h.coherent.agents with e | hnext
  · rw [e]
    exact h.consumed.exists_ownStep
  · exact hnext

/-- Settles O60: only the block's own move stops, at the port or in the phase. -/
theorem stopsOnlyOnMeaningless : Obligations.StopsOnlyOnMeaningless := by
  refine fun s => ⟨step_ne_refused s, fun ha f hf => ?_⟩
  rcases step_own_or_next ha with e | ⟨t, e⟩ <;> rw [e] at hf
  · cases hw : s.popWord with
    | none =>
      rcases fault_of_phase (s := s.consumed) hw hf with ⟨rfl, hp⟩ | ⟨rfl, hp, hi⟩
      · exact .inl ⟨rfl, rfl, hp⟩
      · exact .inr (.inr (.inr (.inr ⟨rfl, rfl, hp, hi⟩)))
    | some w =>
      rcases fault_of_word (s := s.consumed) hw hf with ⟨rfl, h7⟩ | ⟨rfl, hl⟩ | ⟨rfl, hd⟩
      · exact .inr (.inl ⟨rfl, w, rfl, h7⟩)
      · exact .inr (.inr (.inl ⟨rfl, w, rfl, hl⟩))
      · exact .inr (.inr (.inr (.inl ⟨rfl, w, rfl, hd⟩)))
  · cases hf

/-- Settles O32: the reserved codes are faults by their meaning, the words that carry none stop in the fetch. -/
theorem reservedCodesStop : Obligations.ReservedCodesStop := by
  intro r n w s
  have foreign (hi : s.inputs = []) (hw : s.popWord = some w)
      (hm : ¬ ((w.toNat / 256 = 5 → w.toNat % 256 = 2) ∧ (w.toNat / 256 = 6 → w.toNat % 256 = 20))) :
      step s = .fault .foreignWait := by
    rw [← waitMeant_iff, Bool.not_eq_true] at hm
    rw [step_of_no_input hi, ownStep, fetchOwn_foreignWait hw hm, Fetched.outcome]
  refine ⟨rfl, rfl, rfl, fun hi hw hop hn => ?_, fun hi hw hop hn => foreign hi hw fun h => hn (h.1 hop),
    fun hi hw hop hn => foreign hi hw fun h => hn (h.2 hop)⟩
  rw [step_of_no_input hi, ownStep, fetchOwn_illFormed hw hop hn, Fetched.outcome]

/-! ### What a step issues -/

/-- A stretch of a phase operation issues nothing, or one of the six words (R100). -/
theorem PhaseMove.issues {s t : State} (h : PhaseMove s t) :
    t.trace = s.trace ∨ ∃ w ∈ issuedWords, t.popWord = some w ∧ t.trace = s.trace ++ [w] := by
  cases h with
  | releasesLine | wakeReleases => exact .inr ⟨Pop.setInput, by decide, rfl, rfl⟩
  | pollBegins | pollsAgain => exact .inr ⟨Pop.tick, by decide, rfl, rfl⟩
  | pollReads => exact .inr ⟨Pop.lineRead, by decide, rfl, rfl⟩
  | wakeLatches => exact .inr ⟨Pop.driveLow, by decide, rfl, rfl⟩
  | wakeDrives => exact .inr ⟨Pop.setOutput, by decide, rfl, rfl⟩
  | wakeHolds => exact .inr ⟨Pop.wakeHold, by decide, rfl, rfl⟩
  | stores => exact .inl (State.nextSample_frame _).1
  | verifies => exact .inl (State.judge_frame _).1
  | _ => exact .inl rfl

/-- Settles O47: only a phase operation issues a word, and it runs with the port empty. -/
theorem issuesOnlySixWords : Obligations.IssuesOnlySixWords := by
  intro s t h ht
  rcases step_cases h.coherent.agents ht with hown | rfl | ⟨r, rfl⟩ | ⟨-, -, rfl⟩ | ⟨-, rfl⟩
  · cases hw : s.popWord with
    | none => exact (PhaseMove.of_ownStep (s := s.consumed) hw hown).issues.imp_right fun hi => ⟨rfl, hi⟩
    | some w =>
      rw [h.consumed.ownStep_performs hw] at hown
      cases hown
      exact .inl (s.consumed.performed_trace w)
  all_goals exact .inl rfl

end Machine
end Sys2Proof
end

section
/-! PROOFS. The decoder's data (30_encoding.md R91 to R96; 44_decode.md R180 to R183; 45_checksum.md R190, R191): fields of a
frame as sums, conversions and checksum as numbers, and the meanings that load them. -/

namespace Sys2Proof.Machine

/-! ### Fields of a frame as sums (R93) -/

/-- One more bit of a field doubles what stands before it. -/
theorem fieldSum_succ (f : Frame) (first n : Nat) :
    fieldSum f first (n + 1) = 2 * fieldSum f first n + (if f.getLsbD (40 - (first + n)) then 1 else 0) := by
  have double : ∀ j ∈ List.range n,
      (if f.getLsbD (40 - (first + j)) then 1 else 0) * 2 ^ (n - j) =
        2 * ((if f.getLsbD (40 - (first + j)) then 1 else 0) * 2 ^ (n - 1 - j)) := by
    intro j hj
    have hj := List.mem_range.1 hj
    rw [show n - j = n - 1 - j + 1 by omega, pow_succ]
    ring
  rw [fieldSum, List.range_succ, List.map_append, List.sum_append, Nat.add_sub_cancel, List.map_congr_left double,
    List.sum_map_mul_left, fieldSum]
  simp

/-- A field assembled from a frame is its sum. -/
theorem assemble_toNat (f : Frame) (first n : Nat) (h : first + n ≤ 41) : (assemble f first n).toNat = fieldSum f first n := by
  induction n with
  | zero => rfl
  | succ n ih =>
    have hlow : 41 - first - n = 41 - first - (n + 1) + 1 := by omega
    have hbit : f.getLsbD (40 - (first + n)) = decide (f.toNat / 2 ^ (41 - first - (n + 1)) % 2 = 1) := by
      rw [show 40 - (first + n) = 41 - first - (n + 1) by omega, ← BitVec.testBit_toNat, Nat.testBit_eq_decide_div_mod_eq]
    rw [fieldSum_succ, ← ih (by omega), assemble_eq_extract f first (n + 1) h, assemble_eq_extract f first n (by omega), hbit,
      BitVec.extractLsb'_toNat, BitVec.extractLsb'_toNat, Nat.shiftRight_eq_div_pow, Nat.shiftRight_eq_div_pow, hlow,
      pow_succ 2 (41 - first - (n + 1)), ← Nat.div_div_eq_div_mul, pow_succ', Nat.mod_mul]
    simp only [decide_eq_true_eq]
    split <;> omega

/-- Settles O26: each field is assembled from the bits of its sum. -/
theorem extractFields : Obligations.ExtractFields := by
  intro s
  exact ⟨_, rfl, assemble_toNat s.bits 1 16 (by decide), assemble_toNat s.bits 17 16 (by decide),
    assemble_toNat s.bits 33 8 (by decide), ⟨rfl, rfl, rfl, ⟨rfl, rfl, rfl⟩, ⟨rfl, rfl⟩, ⟨rfl, rfl, rfl⟩, ⟨rfl, rfl⟩, rfl, rfl,
    rfl⟩, rfl, ⟨rfl, fun _ => rfl⟩, rfl, rfl, ⟨rfl, rfl, rfl⟩⟩

/-! ### PULSE -/

/-- A write of BIT[i] (R25), seen from the frame's low end. -/
theorem getLsbD_setBit (f : Frame) {i : Nat} (b : Bool) (hi : i ≤ 40) (a : Nat) :
    (setBit f i b).getLsbD a = if a = 40 - i then b else f.getLsbD a := by
  by_cases ha : a ≤ 40
  · have h := bitAt_setBit f i (40 - a) b (by omega) (by omega)
    rw [bitAt_eq _ _ (by omega), bitAt_eq _ _ (by omega), show 40 - (40 - a) = a by omega] at h
    exact h.trans (if_congr (by omega) rfl rfl)
  · rw [if_neg (by omega), BitVec.getLsbD_of_ge _ _ (by omega), BitVec.getLsbD_of_ge _ _ (by omega)]

/-- Settles O33: one entry and one bit are written. -/
theorem pulseClassifies : Obligations.PulseClassifies := by
  intro c s hwf
  refine ⟨fun hi => ?_, fun hi => ?_⟩
  · refine ⟨{ s with sample := Memory.write s.sample s.idx.toNat c, bits := setBit s.bits s.idx.toNat (classifyCount c) }, ?_,
      Memory.read_write_same _ _ _ 0 hwf, fun a ha => Memory.read_write_other _ _ _ _ ha, ?_, fun a ha => ?_, rfl, rfl, rfl, rfl,
      ⟨rfl, rfl, rfl⟩, ⟨rfl, rfl, rfl⟩, ⟨rfl, rfl, rfl⟩, ⟨rfl, rfl⟩, ⟨rfl, rfl, rfl, rfl⟩, ⟨rfl, rfl, rfl⟩, rfl, rfl⟩
    · rw [exec, execPulse, State.storeSample_some hi]
    · rw [getLsbD_setBit s.bits _ hi, if_pos rfl, classifyCount_iff]
    · rw [getLsbD_setBit s.bits _ hi, if_neg ha]
  · rw [exec, execPulse, State.storeSample_none hi]

/-! ### FRAME41 -/

section frame
variable (x : BitVec 1) (h t : Half) (c : Byte)

/-- R92, R93: the fields of a frame are the parts it was put together from. -/
theorem frameChk_frameOf : frameChk (frameOf x h t c) = c := by
  rw [frameChk_eq_extract]
  exact BitVec.extractLsb'_append_eq_right

theorem frameTemp_frameOf : frameTemp (frameOf x h t c) = t := by
  rw [frameTemp_eq_extract, frameOf, BitVec.extractLsb'_append_eq_of_le (by decide)]
  exact BitVec.extractLsb'_append_eq_right

theorem frameHum_frameOf : frameHum (frameOf x h t c) = h := by
  rw [frameHum_eq_extract, frameOf, BitVec.extractLsb'_append_eq_of_le (by decide), BitVec.extractLsb'_append_eq_of_le (by decide)]
  exact BitVec.extractLsb'_append_eq_right

theorem frameOf_toNat : (frameOf x h t c).toNat = x.toNat * 2 ^ 40 + h.toNat * 2 ^ 24 + t.toNat * 2 ^ 8 + c.toNat := by
  rw [frameOf, toNat_append_eq_add, toNat_append_eq_add, toNat_append_eq_add]
  ring

end frame

/-- Settles O34: the fields of the frame are the parts of the word. -/
theorem frameLoads : Obligations.FrameLoads := by
  intro x h t c s
  exact ⟨_, rfl, frameHum_frameOf x h t c, frameTemp_frameOf x h t c, frameChk_frameOf x h t c, frameOf_toNat x h t c, rfl,
    ⟨rfl, rfl, rfl⟩, ⟨rfl, fun _ => rfl⟩, ⟨rfl, rfl, rfl⟩, ⟨rfl, rfl, rfl⟩, ⟨rfl, rfl⟩, ⟨rfl, rfl, rfl, rfl⟩,
    ⟨rfl, rfl, rfl⟩, rfl, rfl⟩

/-! ### FIELD16 -/

section field16
variable (u : BitVec 1) (v : BitVec 15)

/-- R94, R95: a 16-bit field as a number, its top bit and the rest. -/
theorem field16_toNat : (u ++ v : Half).toNat = u.toNat * 32768 + v.toNat :=
  toNat_append_eq_add u v

theorem field16_mod : (u ++ v : Half).toNat % 32768 = v.toNat := by
  have := v.isLt
  rw [field16_toNat]
  omega

theorem field16_ge_iff : 32768 ≤ (u ++ v : Half).toNat ↔ u = 1 := by
  have := v.isLt
  rw [field16_toNat]
  rcases BitVec.eq_zero_or_eq_one u with rfl | rfl
  · exact iff_of_false (by simpa using this) (by decide)
  · exact iff_of_true (by simp) rfl

end field16

/-- R183: sign and magnitude to two's complement. -/
theorem tempValue_toInt (t : Half) :
    (tempValue t).toInt = if 32768 ≤ t.toNat then -((t.toNat % 32768 : Nat) : Int) else (t.toNat : Int) := by
  split
  · rename_i hneg
    rw [BitVec.toInt_eq_toNat_cond, tempValue_of_neg t hneg]
    omega
  · rename_i hpos
    rw [tempValue_of_nonneg t (Nat.lt_of_not_le hpos), BitVec.toInt_eq_toNat_of_lt (by omega)]

/-- R183 on the two parts of the word (R95). -/
theorem tempValue_field16 (g : BitVec 1) (m : BitVec 15) :
    (tempValue (g ++ m)).toInt = if g = 1 then -(m.toNat : Int) else (m.toNat : Int) := by
  rw [tempValue_toInt, field16_mod]
  refine (if_congr (field16_ge_iff g m) rfl rfl).trans ?_
  split
  · rfl
  · rename_i hg
    have hlt : (g ++ m : Half).toNat < 32768 := Nat.lt_of_not_le (mt (field16_ge_iff g m).1 hg)
    rw [← field16_mod g m, Nat.mod_eq_of_lt hlt]

/-- Settles O35: each word is loaded as it stands and converted as P8 converts the register. -/
theorem fieldsConvert : Obligations.FieldsConvert := by
  intro s
  refine ⟨fun u v => ?_, fun g m => ?_⟩
  · exact ⟨_, rfl, field16_toNat u v, (humValue_toNat (u ++ v)).trans (field16_mod u v), rfl, rfl, rfl, rfl, rfl, rfl,
      ⟨rfl, rfl, rfl⟩, ⟨rfl, fun _ => rfl⟩, ⟨rfl, rfl, rfl⟩, ⟨rfl, rfl⟩, ⟨rfl, rfl, rfl, rfl⟩, ⟨rfl, rfl, rfl⟩, rfl, rfl⟩
  · exact ⟨_, rfl, field16_toNat g m, tempValue_field16 g m, (tempSign_iff (g ++ m)).trans (field16_ge_iff g m), rfl, rfl,
      rfl, rfl, rfl, ⟨rfl, rfl, rfl⟩, ⟨rfl, fun _ => rfl⟩, ⟨rfl, rfl, rfl⟩, ⟨rfl, rfl⟩, ⟨rfl, rfl, rfl, rfl⟩,
      ⟨rfl, rfl, rfl⟩, rfl, rfl⟩

/-! ### CHECKSUM8 -/

/-- CHK_CALC and CHK_RX as numbers: the checksum's verdict (R190, R191). -/
theorem checksum_eq_iff (h t : Half) (k : Byte) : checksum h t = k ↔ payloadSum h t % 256 = k.toNat := by
  rw [← BitVec.toNat_inj, checksum_toNat, payloadSum]

/-- Complete() is the end with Success (R134). -/
theorem State.completed_complete (s : State) : s.completed s.complete :=
  ⟨rfl, rfl, rfl, rfl, rfl, rfl, ⟨rfl, fun _ => rfl⟩, ⟨rfl, rfl, rfl, rfl, rfl⟩, ⟨rfl, rfl, rfl⟩, ⟨rfl, rfl⟩,
    ⟨rfl, rfl, rfl⟩, rfl, rfl, rfl⟩

/-- raise K() is the error entry with K's code (R207). -/
theorem State.raised_raiseError (s : State) (k : ProtocolError) : s.raised (s.raiseError k) k.code :=
  ⟨rfl, rfl, rfl, rfl, rfl, rfl, rfl, rfl, rfl, ⟨rfl, fun _ => rfl⟩, ⟨rfl, rfl, rfl, rfl, rfl⟩, ⟨rfl, rfl⟩,
    ⟨rfl, rfl, rfl⟩, rfl, rfl, rfl⟩

/-- Settles O36: the registers are loaded, and a running call is judged by them. -/
theorem checksumJudges : Obligations.ChecksumJudges := by
  intro k s
  let u : State := ({ s with chkRx := k } : State).computeChecksum
  have hsum : u.chkCalc.toNat = payloadSum s.humRaw s.tempRaw % 256 := checksum_toNat s.humRaw s.tempRaw
  have hexec : exec (.checksum8 k) s = .next (u.ifRunning State.judge) := rfl
  cases hb : s.busy with
  | false =>
    rw [State.ifRunning_idle (s := u) hb] at hexec
    exact ⟨u, hexec, rfl, hsum, nofun, nofun, fun _ => hb ▸ rfl⟩
  | true =>
    rw [State.ifRunning_busy (s := u) hb] at hexec
    by_cases hk : u.chkCalc = u.chkRx
    · rw [State.judge_equal hk] at hexec
      exact ⟨u.complete, hexec, rfl, hsum, fun _ _ => u.completed_complete,
        fun _ hne => absurd ((checksum_eq_iff _ _ k).1 hk) hne, nofun⟩
    · rw [State.judge_unequal hk] at hexec
      exact ⟨u.raiseError .checksumMismatch, hexec, rfl, hsum,
        fun _ heq => absurd ((checksum_eq_iff _ _ k).2 heq) hk, fun _ _ => u.raised_raiseError .checksumMismatch, nofun⟩

end Sys2Proof.Machine
end

section
/-! PROOFS. The host command and the outcome words (40_command.md R130 to R134, R207, R210; 10_state.md R33, R38; 20_memory.md R66, R74). -/

namespace Sys2Proof.Machine

/-! ### START -/

/-- Settles O13: START while idle is startCall, which writes each of these registers. -/
theorem readStartsCall : Obligations.ReadStartsCall := by
  intro i s hb
  refine ⟨s.startCall, by rw [exec, execRead, hb]; rfl, rfl, rfl, rfl, rfl, rfl, rfl, fun _ => rfl, fun a => ?_, rfl, rfl, rfl,
    rfl, rfl, rfl, rfl, ⟨rfl, rfl⟩, ⟨rfl, rfl, rfl⟩, ⟨rfl, rfl⟩, rfl, rfl, rfl, rfl⟩
  rw [State.startCall_bits]
  exact BitVec.getLsbD_zero

/-- Settles O14: with BUSY = 1 READ answers the state it was given. -/
theorem readIgnoredWhileBusy : Obligations.ReadIgnoredWhileBusy := by
  intro i s hb
  rw [exec, execRead, if_pos hb]

/-- Settles O51: a START is ignored while a call runs, every other write always, and a read only hands over the register. -/
theorem hostCannotDisturb : Obligations.HostCannotDisturb := by
  intro s r v rest hb
  refine ⟨fun hi => ?_, fun hi => ⟨s.hostValue r, step_of_hostRead hi⟩⟩
  by_cases hr : r = .cmd
  · subst hr
    exact step_of_cmd_ignored hi fun _ => hb
  · exact step_of_other_write hi hr

/-! ### The outcome words (log 11) -/

/-- An error entry applied to a running call (R207, R210). -/
theorem State.raised_ifRunning {s : State} (k : ProtocolError) (hb : s.busy = true) :
    s.raised (s.ifRunning (·.raiseError k)) k.code ∧ s.sameTime (s.ifRunning (·.raiseError k)) := by
  rw [State.ifRunning_busy hb]
  exact ⟨s.raised_raiseError k, rfl, rfl⟩

theorem State.completed_ifRunning {s : State} (hb : s.busy = true) :
    s.completed (s.ifRunning State.complete) ∧ s.sameTime (s.ifRunning State.complete) := by
  rw [State.ifRunning_busy hb]
  exact ⟨s.completed_complete, rfl, rfl⟩

/-- Settles O37: each code is an end of call applied to a call that runs, and NONE writes OUTCOME and DONE. -/
theorem outcomesEndCall : Obligations.OutcomesEndCall := by
  intro s
  refine ⟨fun hb => ?_, fun hb => ?_, ?_⟩
  · exact ⟨⟨_, rfl, State.completed_ifRunning hb⟩, ⟨_, rfl, State.raised_ifRunning .busHung hb⟩,
      ⟨_, rfl, State.raised_ifRunning .notPresent hb⟩, ⟨_, rfl, State.raised_ifRunning .ackTooLong hb⟩,
      ⟨_, rfl, State.raised_ifRunning .syncTimeout hb⟩, ⟨_, rfl, State.raised_ifRunning .dataTimeout hb⟩,
      ⟨_, rfl, State.raised_ifRunning .checksumMismatch hb⟩⟩
  · have idle (f : State → State) : Host.Outcome.next (φ := Fault) (ρ := Refusal) (s.ifRunning f) = .next s :=
      congrArg _ (State.ifRunning_idle hb)
    exact ⟨idle _, idle _, idle _, idle _, idle _, idle _, idle _⟩
  · exact ⟨_, rfl, rfl, rfl, rfl, ⟨rfl, rfl, rfl⟩, ⟨rfl, fun _ => rfl⟩, ⟨rfl, rfl, rfl, rfl, rfl⟩, ⟨rfl, rfl, rfl⟩,
      ⟨rfl, rfl⟩, ⟨rfl, rfl, rfl, rfl⟩, ⟨rfl, rfl, rfl⟩, rfl, rfl⟩

/-! ### The Result -/

/-- The code of an error kind stands for that kind (R98). -/
theorem errorOfCode_code (k : ProtocolError) : errorOfCode k.code = some k := by
  cases k <;> rfl

/-- Settles O41: behind the gate the Result is the Reading, and an error's code gives its kind. -/
theorem resultOfCall : Obligations.ResultOfCall := by
  intro s hd
  refine ⟨fun ho => ?_, fun k ho => ?_⟩
  · have hcode : errorOfCode s.outcome = none := by rw [ho]; rfl
    rw [State.result, if_pos hd, hcode]
    exact if_pos (s.gate_iff.2 ⟨hd, ho⟩)
  · rw [State.result, if_pos hd, ho, errorOfCode_code]

/-! ### The result after a call (R131) -/

/-- IDLE does nothing (R220). -/
theorem Inv.ownStep_idle {s : State} (h : Inv s) (hb : s.busy = false) : ownStep s = .next s := by
  have hp := h.phase_of_idle hb
  exact (PhaseMove.idles hp).ownStep_eq (h.placed_idle hp).1

/-- Settles O53: an idle block moves only at START and at reset; an event taken out and a host read leave the registers. -/
theorem resultStaysUntilStart : Obligations.ResultStaysUntilStart := by
  intro s t h hb hreset hstart ht r
  rcases step_cases h.coherent.agents ht with hown | rfl | ⟨q, rfl⟩ | ⟨hs, -, -⟩ | ⟨hr, -⟩
  · rw [h.consumed.ownStep_idle hb] at hown
    cases hown
    rfl
  · rfl
  · rfl
  · exact absurd hs hstart
  · exact absurd hreset hr

end Sys2Proof.Machine
end

section
/-! PROOFS. A call ends (40_command.md R135; 70_reset_and_hazards.md R245): the steps, polls and wake waits a call has left, and
that every move of a running call spends a step. -/

namespace Sys2Proof.Machine

/-- N of a phase's PollUntil (R164); a phase without one polls nothing. -/
def pollBound (p : PhaseCode) : Nat := ((pollingPhases.find? (·.code = p)).map (·.bound)).getD 0

theorem pollBound_code {r : PollingPhase} (hr : r ∈ pollingPhases) : pollBound r.code = r.bound := by
  revert r
  decide

/-- Polls the phases after p can still make (R135), IDX being i: 26 and 51 in P3 and P4, and 36 + 51 for every sample. -/
def laterPolls (p : PhaseCode) (i : Nat) : Nat :=
  match p.toNat with
  | 1 => 26 + 51 + 41 * 87
  | 2 => 26 + 51 + 41 * 87
  | 3 => 51 + 41 * 87
  | 4 => 41 * 87
  | 5 => 51 + (40 - i) * 87
  | 6 => (40 - i) * 87
  | _ => 0

/-- Steps the phases after p take beside their polls: nine in P2, one to leave each polling phase, one in each of P6 to P9. -/
def laterMoves (p : PhaseCode) (i : Nat) : Nat :=
  match p.toNat with
  | 1 => 9 + 1 + 1 + 41 * 2 + 4
  | 2 => 1 + 1 + 41 * 2 + 4
  | 3 => 1 + 41 * 2 + 4
  | 4 => 41 * 2 + 4
  | 5 => 1 + (40 - i) * 2 + 4
  | 6 => (40 - i) * 2 + 4
  | 7 => 3
  | 8 => 2
  | 9 => 1
  | _ => 0

/-- Steps from a place inside phase p to the end of the phase, beside the polls not begun and the operation in flight. -/
def placeMoves (p : PhaseCode) (m : Micro) : Nat :=
  match p.toNat, m with
  | 0, _ => 0
  | 1, .enter => 3
  | 2, .enter => 9
  | _, .latched => 7
  | _, .driven => 5
  | _, .held => 3
  | _, .ticked => 3
  | _, _ => 1

/-- Polls of this phase not begun. -/
def State.pollsHere (s : State) : Nat :=
  match s.micro with
  | .ticked => pollBound s.phase - s.poll.toNat
  | .answered => pollBound s.phase - s.poll.toNat
  | _ => pollBound s.phase

/-- Polls the call can still begin. -/
def State.pollsLeft (s : State) : Nat := s.pollsHere + laterPolls s.phase s.idx.toNat

/-- Steps the call can still take: four for every poll (logs 2, 3). -/
def State.stepsLeft (s : State) : Nat :=
  4 * s.pollsLeft + placeMoves s.phase s.micro + laterMoves s.phase s.idx.toNat + (if s.popWord = none then 0 else 1)

/-- Reads owed to a wait already issued. -/
def State.readsOwed (s : State) : Nat := if s.busy = true ∧ s.micro = .ticked then 1 else 0

/-- Wake waits a call can still issue at a place of phase p (R161). -/
def holdsAt (p : PhaseCode) (m : Micro) : Nat :=
  if p = Phase.idleWait ∨ (p = Phase.wake ∧ m ≠ .held ∧ m ≠ .released) then 1 else 0

/-- Wake waits the call can still issue. -/
def State.holdsLeft (s : State) : Nat := holdsAt s.phase s.micro

/-- n steps from s to t issue ops and spend no more than s has left of steps, polls and wake waits; every wait of 2 microseconds
that is not owed its read has got it (R147). -/
structure Spent (n : Nat) (s t : State) (ops : List PopWord) : Prop where
  trace : t.trace = s.trace ++ ops
  steps : n + t.stepsLeft ≤ s.stepsLeft
  polls : ops.count 0x502 + t.pollsLeft ≤ s.pollsLeft
  reads : ops.count 0x502 + s.readsOwed = ops.count 0x400 + t.readsOwed
  holds : ops.count 0x614 + t.holdsLeft ≤ s.holdsLeft

theorem Spent.trans {m n : Nat} {s t u : State} {ops ops' : List PopWord} (h : Spent m s t ops) (h' : Spent n t u ops') :
    Spent (m + n) s u (ops ++ ops') := by
  obtain ⟨htrace, hsteps, hpolls, hreads, hholds⟩ := h
  obtain ⟨htrace', hsteps', hpolls', hreads', hholds'⟩ := h'
  refine ⟨by rw [htrace', htrace, List.append_assoc], by omega, ?_, ?_, ?_⟩
  · rw [List.count_append]; omega
  · rw [List.count_append, List.count_append]; omega
  · rw [List.count_append]; omega

/-! ### What a move spends -/

/-- Nothing is polled at a place outside the polls. -/
theorem State.pollsHere_of_not_polling {s : State} (ht : s.micro ≠ .ticked) (ha : s.micro ≠ .answered) :
    s.pollsHere = pollBound s.phase := by
  unfold State.pollsHere
  split
  · contradiction
  · contradiction
  · rfl

/-- An operation performed spends a step. -/
theorem spent_performed {s : State} {w : PopWord} (hw : s.popWord = some w) : Spent 1 s (s.performed w) [] := by
  obtain ⟨⟨-, hidx, -⟩, -, -, -, -, hbusy, -⟩ := s.performed_sameRegisters w
  have hpolls : (s.performed w).pollsLeft = s.pollsLeft := by simp [State.pollsLeft, State.pollsHere, hidx]
  have hflight : (if (s.performed w).popWord = none then 0 else 1) = 0 ∧ (if s.popWord = none then 0 else 1) = 1 := by
    simp [hw]
  refine ⟨by simp, ?_, by simp [hpolls], by simp [State.readsOwed, hbusy], by simp [State.holdsLeft]⟩
  rw [State.stepsLeft, State.stepsLeft, hpolls, hflight.1, hflight.2, State.performed_phase, State.performed_micro, hidx]
  omega

/-- Phase q with IDX = j asks for no more than is set aside for what follows phase p with IDX = i. -/
def Succeeds (p : PhaseCode) (i : Nat) (q : PhaseCode) (j : Nat) : Prop :=
  pollBound q + laterPolls q j ≤ laterPolls p i ∧ placeMoves q .enter + laterMoves q j ≤ laterMoves p i ∧
    (q = Phase.idleWait ∨ q = Phase.wake → p = Phase.idleWait)

theorem succeeds_idle (p : PhaseCode) (i j : Nat) : Succeeds p i Phase.idle j :=
  ⟨Nat.zero_le _, Nat.zero_le _, fun h => absurd h (by decide)⟩

/-- The order of R21, with IDX where it counts. -/
theorem succeeds_phases (i : Nat) :
    Succeeds Phase.idleWait i Phase.wake i ∧ Succeeds Phase.wake i Phase.ackStart i ∧ Succeeds Phase.ackStart i Phase.ackEnd i ∧
      Succeeds Phase.ackEnd i Phase.sync 0 ∧ Succeeds Phase.sync i Phase.measure i ∧
      (i < 40 → Succeeds Phase.measure i Phase.sync (i + 1)) ∧ Succeeds Phase.measure i Phase.classify (i + 1) ∧
      Succeeds Phase.classify i Phase.extract i ∧ Succeeds Phase.extract i Phase.convert i ∧
      Succeeds Phase.convert i Phase.verify i := by
  simp [Succeeds, pollBound, pollingPhases, laterPolls, laterMoves, placeMoves, Phase.idleWait, Phase.wake, Phase.ackStart,
    Phase.ackEnd, Phase.sync, Phase.measure, Phase.classify, Phase.extract, Phase.convert, Phase.verify]
  omega

theorem placeMoves_pos {p : PhaseCode} (hp : p ≠ 0) (m : Micro) : 1 ≤ placeMoves p m := by
  have hp : p.toNat ≠ 0 := fun h => hp (BitVec.eq_of_toNat_eq h)
  unfold placeMoves
  split <;> omega

/-- A phase entered from another spends a step. -/
theorem spent_enter {s t : State} (hp : s.phase ≠ 0) (hs : s.micro ≠ .ticked) (htrace : t.trace = s.trace)
    (ht : t.micro = .enter) (hw : t.popWord = none) (h : Succeeds s.phase s.idx.toNat t.phase t.idx.toNat) :
    Spent 1 s t [] := by
  obtain ⟨hpolls, hmoves, hholds⟩ := h
  have hpos := placeMoves_pos hp s.micro
  have hleft : t.pollsLeft ≤ laterPolls s.phase s.idx.toNat := by
    rwa [State.pollsLeft, State.pollsHere_of_not_polling (by simp [ht]) (by simp [ht])]
  have hset : laterPolls s.phase s.idx.toNat ≤ s.pollsLeft := Nat.le_add_left _ _
  refine ⟨by rw [htrace, List.append_nil], ?_, ?_, ?_, ?_⟩
  · rw [State.stepsLeft, State.stepsLeft, if_pos hw, ht]
    omega
  · rw [List.count_nil]
    omega
  · simp [State.readsOwed, hs, ht]
  · rw [List.count_nil, Nat.zero_add, State.holdsLeft, holdsAt]
    split
    · next hto =>
      have hfrom := hholds (hto.imp_right And.left)
      rw [State.holdsLeft, holdsAt, if_pos (.inl hfrom)]
    · exact Nat.zero_le _

/-- A word issued inside a phase: a step, and one more until it is done. -/
theorem spent_issue {s t : State} {w : PopWord} (hp : t.phase = s.phase) (hi : t.idx = s.idx)
    (htrace : t.trace = s.trace ++ [w]) (hs : s.popWord = none) (ht : t.popWord = some w)
    (hsteps : 4 * t.pollsHere + placeMoves s.phase t.micro + 2 ≤ 4 * s.pollsHere + placeMoves s.phase s.micro)
    (hpolls : [w].count 0x502 + t.pollsHere ≤ s.pollsHere)
    (hreads : [w].count 0x502 + s.readsOwed = [w].count 0x400 + t.readsOwed)
    (hholds : [w].count 0x614 + t.holdsLeft ≤ s.holdsLeft) : Spent 1 s t [w] := by
  refine ⟨htrace, ?_, ?_, hreads, hholds⟩
  · rw [State.stepsLeft, State.stepsLeft, State.pollsLeft, State.pollsLeft, hp, hi, if_pos hs, if_neg (by simp [ht])]
    omega
  · rw [State.pollsLeft, State.pollsLeft, hp, hi]
    omega

/-- A word of P1 or P2 that belongs to no poll, issued at the place m of phase p. -/
theorem spent_issue_quiet {s : State} {p : PhaseCode} {w : PopWord} {m m' : Micro} (hw : s.popWord = none) (hp : s.phase = p)
    (hm : s.micro = m) (hplaces : (m ≠ .ticked ∧ m ≠ .answered) ∧ m' ≠ .ticked ∧ m' ≠ .answered)
    (hword : [w].count 0x502 = 0 ∧ [w].count 0x400 = 0) (hmoves : placeMoves p m' + 2 ≤ placeMoves p m)
    (hholds : [w].count 0x614 + holdsAt p m' ≤ holdsAt p m) : Spent 1 s (s.issue w m') [w] := by
  subst hp hm
  obtain ⟨hs, ht⟩ := hplaces
  have hhere : (s.issue w m').pollsHere = s.pollsHere := by
    rw [State.pollsHere_of_not_polling hs.1 hs.2, State.pollsHere_of_not_polling ht.1 ht.2, State.issue_phase]
  have howed : s.readsOwed = 0 := if_neg fun h => hs.1 h.2
  have howed' : (s.issue w m').readsOwed = 0 := if_neg fun h => ht.1 h.2
  refine spent_issue rfl rfl rfl hw rfl ?_ ?_ ?_ hholds
  · rw [hhere, State.issue_micro, Nat.add_assoc]
    exact Nat.add_le_add_left hmoves _
  · rw [hhere, hword.1, Nat.zero_add]
  · rw [howed, howed', hword.1, hword.2]

section poll
variable {s : State} {r : PollingPhase} (hr : r ∈ pollingPhases) (hp : s.phase = r.code)
include hr hp

theorem placeMoves_ticked : placeMoves s.phase .ticked = 3 := by
  rw [hp]
  clear hp
  revert r
  decide

theorem placeMoves_answered : placeMoves s.phase .answered = 1 := by
  rw [hp]
  clear hp
  revert r
  decide

theorem State.holdsLeft_of_polling {t : State} (ht : t.phase = s.phase) : t.holdsLeft = s.holdsLeft := by
  simp [State.holdsLeft, holdsAt, ht, hp, PollingPhase.code_ne_wake hr]

/-- A poll begun, and a read owed. -/
theorem spent_tick {n : Byte} (hw : s.popWord = none) (hb : s.busy = true) (hs : s.micro ≠ .ticked)
    (hhere : 1 + (r.bound - (n + 1).toNat) ≤ s.pollsHere) (hplace : placeMoves s.phase s.micro = 1) :
    Spent 1 s ({ s with poll := n } : State).tick [Pop.tick] := by
  have hhere' : ({ s with poll := n } : State).tick.pollsHere = r.bound - (n + 1).toNat := by
    rw [← pollBound_code hr, ← hp]
    rfl
  have howed : s.readsOwed = 0 := if_neg fun h => hs h.2
  have howed' : ({ s with poll := n } : State).tick.readsOwed = 1 := if_pos ⟨hb, rfl⟩
  refine spent_issue rfl rfl rfl hw rfl ?_ ?_ ?_ ?_
  · rw [hhere', State.tick_micro, placeMoves_ticked hr hp, hplace]; omega
  · rw [hhere']; exact hhere
  · rw [howed, howed']; decide
  · exact (Nat.zero_add _).trans_le (Nat.le_of_eq (State.holdsLeft_of_polling hr hp rfl))

/-- The read owed, issued. -/
theorem spent_read (hw : s.popWord = none) (hb : s.busy = true) (hs : s.micro = .ticked) :
    Spent 1 s (s.issue Pop.lineRead .answered) [Pop.lineRead] := by
  have hhere : (s.issue Pop.lineRead .answered).pollsHere = s.pollsHere := by
    rw [State.pollsHere, State.pollsHere, hs]
    rfl
  have howed : s.readsOwed = 1 := if_pos ⟨hb, hs⟩
  have howed' : (s.issue Pop.lineRead .answered).readsOwed = 0 := if_neg fun h => nomatch h.2
  refine spent_issue rfl rfl rfl hw rfl ?_ ?_ ?_ ?_
  · rw [hhere, State.issue_micro, placeMoves_answered hr hp, hs, placeMoves_ticked hr hp]
  · rw [hhere]; exact (Nat.zero_add _).le
  · rw [howed, howed']; decide
  · exact (Nat.zero_add _).trans_le (Nat.le_of_eq (State.holdsLeft_of_polling hr hp rfl))

end poll

/-- From P6 on the sequencer stands at the beginning of its phase (decision D18). -/
theorem Inv.entered_of_decoding {s : State} (h : Inv s) (hp : s.phaseIn 7 10) : s.entered := by
  have hpl := h.coherent.placed
  obtain ⟨hlo, hhi⟩ := hp
  have hcode : s.phase.toNat = 7 ∨ s.phase.toNat = 8 ∨ s.phase.toNat = 9 ∨ s.phase.toNat = 10 := by omega
  rcases hcode with hcode | hcode | hcode | hcode <;>
    · rw [State.placed, hcode] at hpl
      exact hpl.1

/-- Where a polling phase begins to poll it has one step beside its polls left. -/
theorem Inv.placeMoves_of_pollBegins {s : State} {r : PollingPhase} (h : Inv s) (hr : r ∈ pollingPhases) (hp : s.phase = r.code)
    (hl : r.code = Phase.idleWait → s.micro = .loop) (ht : s.micro ≠ .ticked) (ha : s.micro ≠ .answered) :
    placeMoves s.phase s.micro = 1 := by
  have row : ∀ r ∈ pollingPhases,
      placeMoves r.code .loop = 1 ∧ (r.code ≠ Phase.idleWait → placeMoves r.code .enter = 1) := by decide
  obtain ⟨hloop, henter⟩ := row r hr
  by_cases hc : r.code = Phase.idleWait
  · rw [hp, hl hc, hloop]
  · obtain ⟨(he | ⟨hc', -⟩ | ⟨⟨hm, -⟩ | ⟨hm, -⟩, -⟩), -⟩ := (State.placed_polling_iff hr hp).1 h.coherent.placed
    · rw [hp, he.1, henter hc]
    · exact absurd hc' hc
    · exact absurd hm ht
    · exact absurd hm ha

/-- Every move of a running call spends a step. -/
theorem PhaseMove.spent {s t : State} (hm : PhaseMove s t) (h : Inv s) (hb : s.busy = true) (hw : s.popWord = none) :
    ∃ ops, Spent 1 s t ops := by
  have hp0 : s.phase ≠ 0 := h.spec.busy_iff.1 hb
  have not_ticked {m : Micro} (hm : s.micro = m) (hne : m ≠ .ticked) : s.micro ≠ .ticked := hm ▸ hne
  have decoding {p : PhaseCode} (hp : s.phase = p) (hcode : 7 ≤ p.toNat ∧ p.toNat ≤ 10) : s.micro ≠ .ticked :=
    not_ticked (h.entered_of_decoding (State.phaseIn_of hp hcode)).1 (by decide)
  obtain ⟨hwake, hackStart, hackEnd, hsync, hmeasure, hmore, hclassify, hextract, hconvert, hverify⟩ :=
    succeeds_phases s.idx.toNat
  cases hm with
  | idles hp => exact absurd hp hp0
  | releasesLine hp hl ht ha =>
    have hm : s.micro = .enter := by
      obtain ⟨(he | ⟨-, hm, -⟩ | ⟨⟨hm, -⟩ | ⟨hm, -⟩, -⟩), -⟩ :=
        (State.placed_polling_iff (r := .p1) (by decide) hp).1 h.coherent.placed
      exacts [he.1, absurd hm hl, absurd hm ht, absurd hm ha]
    exact ⟨_, spent_issue_quiet hw hp hm (by decide) (by decide) (by decide) (by decide)⟩
  | pollBegins hr hp hl ht ha =>
    refine ⟨_, spent_tick hr hp hw hb ht ?_ (h.placeMoves_of_pollBegins hr hp hl ht ha)⟩
    rw [State.pollsHere_of_not_polling ht ha, hp, pollBound_code hr]
    exact (Nat.add_sub_of_le (PollingPhase.bound_le hr).1).le
  | pollReads hr hp ht => exact ⟨_, spent_read hr hp hw hb ht⟩
  | pollsAgain hr hp ha hv hn =>
    obtain ⟨hlo, hhi⟩ := h.poll_bounds hr hp (.inr ha)
    have hbound := (PollingPhase.bound_le hr).2
    have hs : (s.poll + 1).toNat = s.poll.toNat + 1 := BitVec.toNat_add_of_lt (by simp; omega)
    refine ⟨_, spent_tick (n := s.poll) hr hp hw hb (not_ticked ha (by decide)) ?_ (by rw [ha, placeMoves_answered hr hp])⟩
    rw [State.pollsHere, ha, hp, pollBound_code hr, hs]
    dsimp only
    omega
  | pollFails hr hk hp ha => exact ⟨_, spent_enter hp0 (not_ticked ha (by decide)) rfl rfl hw (succeeds_idle _ _ _)⟩
  | lineIsFree hp ha => exact ⟨_, spent_enter hp0 (not_ticked ha (by decide)) rfl rfl hw (by rw [hp]; exact hwake)⟩
  | wakeLatches hp hl hd hh hr =>
    have hm : s.micro = .enter := by
      rcases h.wake_line hp hw with ⟨-, hm | hm⟩ | ⟨-, hm | hm | hm⟩
      exacts [absurd hm hd, absurd hm hh, hm, absurd hm hl, absurd hm hr]
    exact ⟨_, spent_issue_quiet hw hp hm (by decide) (by decide) (by decide) (by decide)⟩
  | wakeDrives hp hm => exact ⟨_, spent_issue_quiet hw hp hm (by decide) (by decide) (by decide) (by decide)⟩
  | wakeHolds hp hm => exact ⟨_, spent_issue_quiet hw hp hm (by decide) (by decide) (by decide) (by decide)⟩
  | wakeReleases hp hm => exact ⟨_, spent_issue_quiet hw hp hm (by decide) (by decide) (by decide) (by decide)⟩
  | wakeEnds hp hm => exact ⟨_, spent_enter hp0 (not_ticked hm (by decide)) rfl rfl hw (by rw [hp]; exact hackStart)⟩
  | ackStarts hp ha => exact ⟨_, spent_enter hp0 (not_ticked ha (by decide)) rfl rfl hw (by rw [hp]; exact hackEnd)⟩
  | ackEnds hp ha => exact ⟨_, spent_enter hp0 (not_ticked ha (by decide)) rfl rfl hw (by rw [hp]; exact hsync)⟩
  | syncs hp ha => exact ⟨_, spent_enter hp0 (not_ticked ha (by decide)) rfl rfl hw (by rw [hp]; exact hmeasure)⟩
  | stores hp ha hv hi =>
    rw [← idx_succ_toNat hi] at hmore hclassify
    rcases State.nextSample_cases { s with sample := Memory.write s.sample s.idx.toNat s.poll } hi with
      ⟨hlt, e⟩ | ⟨-, e⟩ <;> rw [e]
    · exact ⟨_, spent_enter hp0 (not_ticked ha (by decide)) rfl rfl hw (by rw [hp]; exact hmore hlt)⟩
    · exact ⟨_, spent_enter hp0 (not_ticked ha (by decide)) rfl rfl hw (by rw [hp]; exact hclassify)⟩
  | classifies hp => exact ⟨_, spent_enter hp0 (decoding hp (by decide)) rfl rfl hw (by rw [hp]; exact hextract)⟩
  | extracts hp => exact ⟨_, spent_enter hp0 (decoding hp (by decide)) rfl rfl hw (by rw [hp]; exact hconvert)⟩
  | converts hp => exact ⟨_, spent_enter hp0 (decoding hp (by decide)) rfl rfl hw (by rw [hp]; exact hverify)⟩
  | verifies hp =>
    by_cases hc : (s.pass Config.tPost).computeChecksum.chkCalc = (s.pass Config.tPost).computeChecksum.chkRx
    · rw [State.judge_equal hc]
      exact ⟨_, spent_enter hp0 (decoding hp (by decide)) rfl rfl hw (succeeds_idle _ _ _)⟩
    · rw [State.judge_unequal hc]
      exact ⟨_, spent_enter hp0 (decoding hp (by decide)) rfl rfl hw (succeeds_idle _ _ _)⟩

/-- A move of a running call leaves it running, or ends it with an outcome (R134, R207). -/
theorem PhaseMove.busy_or_over {s t : State} (hm : PhaseMove s t) (hb : s.busy = true) : t.busy = true ∨ t.callOver := by
  cases hm with
  | pollFails => exact .inr ⟨rfl, rfl, ProtocolError.code_ne_none _⟩
  | stores hp ha hv hi =>
    rcases State.nextSample_cases { s with sample := Memory.write s.sample s.idx.toNat s.poll } hi with
      ⟨-, e⟩ | ⟨-, e⟩ <;> rw [e] <;> exact .inl hb
  | verifies =>
    by_cases hc : (s.pass Config.tPost).computeChecksum.chkCalc = (s.pass Config.tPost).computeChecksum.chkRx
    · rw [State.judge_equal hc]
      exact .inr ⟨rfl, rfl, by simp [ProtocolOutcome.code]⟩
    · rw [State.judge_unequal hc]
      exact .inr ⟨rfl, rfl, ProtocolError.checksumMismatch.code_ne_none⟩
  | _ => exact .inl hb

/-- So does every step, left to itself. -/
theorem Inv.exists_spending_step {s : State} (h : Inv s) (hb : s.busy = true) (hi : s.inputs = []) :
    ∃ t ops, step s = .next t ∧ t.inputs = [] ∧ (t.busy = true ∨ t.callOver) ∧ Spent 1 s t ops := by
  rw [step_of_no_input hi]
  cases hw : s.popWord with
  | none =>
    obtain ⟨t, hm⟩ := h.exists_phaseMove
    obtain ⟨ops, hspent⟩ := hm.spent h hb hw
    exact ⟨t, ops, hm.ownStep_eq hw, hm.inputs_eq.trans hi, hm.busy_or_over hb, hspent⟩
  | some w =>
    obtain ⟨-, -, -, -, -, hbusy, -⟩ := s.performed_sameRegisters w
    exact ⟨_, [], h.ownStep_performs hw, (s.performed_inputs w).trans hi, .inl (hbusy.trans hb), spent_performed hw⟩

/-- A running call, left to itself, runs at every step until it is over, and spends no more than it had. -/
theorem Inv.runs_until_over {s : State} (h : Inv s) (hb : s.busy = true) (hi : s.inputs = []) :
    ∃ n t ops, (∀ m, m < n → ∃ u, steps m s = .next u ∧ u.busy = true) ∧ steps n s = .next t ∧ t.inputs = [] ∧ t.callOver ∧
      Spent n s t ops := by
  induction hk : s.stepsLeft using Nat.strong_induction_on generalizing s with
  | _ k ih =>
    obtain ⟨u, ops, hstep, hiu, hu | hu, hspent⟩ := h.exists_spending_step hb hi
    · have hless : u.stepsLeft < k := by have := hspent.steps; omega
      obtain ⟨n, t, ops', hrun, ht, hit, hover, hspent'⟩ := ih _ hless (h.after_step hstep) hu hiu rfl
      refine ⟨1 + n, t, ops ++ ops', fun m hm => ?_, ?_, hit, hover, hspent.trans hspent'⟩
      · cases m with
        | zero => exact ⟨s, rfl, hb⟩
        | succ m => rw [steps_succ hstep]; exact hrun m (by omega)
      · rw [Nat.add_comm, steps_succ hstep, ht]
    · refine ⟨1, u, ops, fun m hm => ?_, steps_succ hstep, hiu, hu, hspent⟩
      obtain rfl : m = 0 := by omega
      exact ⟨s, rfl, hb⟩

/-! ### What a call has at most -/

theorem pollsHere_le (s : State) : s.pollsHere ≤ pollBound s.phase := by
  unfold State.pollsHere
  split <;> omega

theorem placeMoves_le (p : PhaseCode) (m : Micro) : placeMoves p m ≤ 9 := by
  unfold placeMoves
  split <;> omega

theorem laterPolls_le (p : PhaseCode) (i : Nat) : laterPolls p i ≤ laterPolls p 0 := by
  unfold laterPolls
  split <;> omega

theorem laterMoves_le (p : PhaseCode) (i : Nat) : laterMoves p i ≤ laterMoves p 0 := by
  unfold laterMoves
  split <;> omega

/-- R135: four steps for each of 3770 polls, and a hundred. -/
theorem Inv.stepsLeft_le {s : State} (h : Inv s) : s.stepsLeft ≤ 15180 := by
  have flight : (if s.popWord = none then 0 else 1) ≤ 1 := by split <;> omega
  by_cases hp : s.phase = Phase.idleWait
  · have hpolls : laterPolls Phase.idleWait s.idx.toNat = 3644 := rfl
    have hmoves : laterMoves Phase.idleWait s.idx.toNat = 97 := rfl
    have hbound : pollBound Phase.idleWait = 126 := by decide
    have hplaces : placeMoves Phase.idleWait .enter = 3 ∧ placeMoves Phase.idleWait .loop = 1 ∧
        placeMoves Phase.idleWait .ticked = 3 ∧ placeMoves Phase.idleWait .answered = 1 := by decide
    obtain ⟨henter, hloop, hticked, hanswered⟩ := hplaces
    rw [State.stepsLeft, State.pollsLeft, State.pollsHere, hp, hpolls, hmoves, hbound]
    obtain ⟨(⟨hm, hw⟩ | ⟨-, hm, -⟩ | ⟨⟨hm, -⟩ | ⟨hm, -⟩, hpoll, -⟩), -⟩ :=
      (State.placed_polling_iff (r := .p1) (by decide) hp).1 h.coherent.placed
    · simp only [hm, henter, if_pos hw]
      omega
    · simp only [hm, hloop]
      omega
    · simp only [hm, hticked]
      omega
    · simp only [hm, hanswered]
      omega
  · have later : ∀ p : PhaseCode, p ≠ Phase.idleWait → 4 * (pollBound p + laterPolls p 0) + laterMoves p 0 ≤ 15170 := by
      decide
    have := later _ hp
    have := pollsHere_le s
    have := placeMoves_le s.phase s.micro
    have := laterPolls_le s.phase s.idx.toNat
    have := laterMoves_le s.phase s.idx.toNat
    rw [State.stepsLeft, State.pollsLeft]
    omega

/-- What START gives the call (R135). -/
theorem State.startCall_left (s : State) :
    s.startCall.pollsLeft = 3770 ∧ s.startCall.readsOwed = 0 ∧ s.startCall.holdsLeft = 1 := by
  have hpolls : pollBound Phase.idleWait + laterPolls Phase.idleWait 0 = 3770 := by decide
  exact ⟨hpolls, rfl, rfl⟩

/-- Settles O54: every step spends one of the steps the call has left. -/
theorem everyCallEnds : Obligations.EveryCallEnds := by
  intro s h hb hi
  obtain ⟨n, t, ops, -, ht, -, hover, hspent⟩ := h.runs_until_over hb hi
  exact ⟨n, t, by have := hspent.steps; have := h.stepsLeft_le; omega, ht, hover⟩

/-- Settles O55: START sets the call to its first place, which has 3770 polls and one wake wait left. -/
theorem callBounds : Obligations.CallBounds := by
  intro s v h hb hi hv
  have hstart := step_of_start hi hv hb
  have hu := h.after_step hstart
  obtain ⟨n, t, ops, hrun, ht, hit, hover, hspent⟩ := hu.runs_until_over rfl rfl
  have hsteps := hu.stepsLeft_le
  obtain ⟨htrace, hn, hpolls, hreads, hholds⟩ := hspent
  obtain ⟨hpolls', howed, hholds'⟩ := State.startCall_left { s with inputs := [] }
  rw [hpolls'] at hpolls
  rw [howed, show t.readsOwed = 0 from if_neg (by simp [hover.1])] at hreads
  rw [hholds'] at hholds
  refine ⟨n + 1, t, ops, by omega, by omega, fun m h1 hm => ?_, ?_, hit, hover, htrace, by omega, hreads, by omega⟩
  · obtain ⟨m, rfl⟩ := Nat.exists_eq_add_of_le' h1
    rw [steps_succ hstart]
    exact hrun m (by omega)
  · rw [steps_succ hstart, ht]

end Sys2Proof.Machine
end

section
/-! PROOFS. A call is the functional reading of Machine/Call.lean (40_command.md R133, R137): the machine follows it part by part. -/

namespace Sys2Proof.Machine

open Call

/-! ### Runs without outside events -/

/-- Some steps lead from s to t. -/
def Reaches (s t : State) : Prop := ∃ n, steps n s = .next t

theorem Reaches.trans {s t u : State} (h : Reaches s t) (h' : Reaches t u) : Reaches s u := by
  obtain ⟨m, hm⟩ := h
  obtain ⟨n, hn⟩ := h'
  exact ⟨m + n, (steps_add hm).trans hn⟩

theorem Reaches.of_step {s t : State} (h : step s = .next t) : Reaches s t :=
  ⟨1, steps_succ h⟩

theorem PhaseMove.reaches {s t : State} (h : PhaseMove s t) (hw : s.popWord = none) (hi : s.inputs = []) : Reaches s t :=
  .of_step ((step_of_no_input hi).trans (h.ownStep_eq hw))

/-! ### The machine follows the functional reading -/

/-- The machine in s stands where the functional reading of the call that began with the trace `base` has made the progress p:
answers to come, words issued, samples taken, and polls counted when an answer is there to be looked at. -/
structure Follows (base : List PopWord) (s : State) (p : Progress) : Prop where
  inv : Inv s
  inputs : s.inputs = []
  script : s.script = p.script
  trace : s.trace = base ++ p.trace
  count : s.idx.toNat = p.samples.length
  samples : ∀ i, (Memory.read s.sample i).toNat = p.samples.getD i 0
  polls : s.micro = .answered → s.poll.toNat = p.poll

/-- The call is over as e says (R130), with the words and answers e says used. -/
structure EndsAs (base : List PopWord) (t : State) (e : CallEnd) : Prop where
  ended : t.callOver
  outcome : t.outcome = e.outcome.code
  humidity : t.humX10.toNat = e.humidity
  temperature : t.tempX10.toInt = e.temperature
  negative : t.tempNeg = e.negative
  trace : t.trace = base ++ e.last.trace
  script : t.script = e.last.script

/-- The end of a call in the error k (R207). -/
def failure (k : ProtocolError) (p : Progress) : CallEnd :=
  { outcome := .error k, humidity := 0, temperature := 0, negative := false, last := p }

/-- From s the machine comes to where a part of the functional reading ends: with P, or in the error. -/
def Leads (base : List PopWord) (s : State) (P : State → Progress → Prop) : Call.Part → Prop
  | .through q => ∃ t, Reaches s t ∧ Follows base t q ∧ P t q
  | .failed k q => ∃ t, Reaches s t ∧ EndsAs base t (failure k q)

/-- At the beginning of phase p. -/
def Begins (p : PhaseCode) (s : State) (_ : Progress) : Prop := s.phase = p ∧ s.entered

/-- The head of P5's loop (R170), with n samples taken: P5A, or P6 when they are 41. -/
def LoopHead (n : Nat) (s : State) (p : Progress) : Prop :=
  s.entered ∧ (s.phase = Phase.sync ∨ s.phase = Phase.classify) ∧ p.samples.length = n

section follows
variable {base : List PopWord} {s : State} {P Q : State → Progress → Prop}

theorem Leads.of_reaches {t : State} {x : Call.Part} (h : Reaches s t) (hx : Leads base t P x) : Leads base s P x := by
  cases x with
  | through q =>
    obtain ⟨u, hu, hrest⟩ := hx
    exact ⟨u, h.trans hu, hrest⟩
  | failed k q =>
    obtain ⟨u, hu, hend⟩ := hx
    exact ⟨u, h.trans hu, hend⟩

/-- A move of the machine alone after a part. -/
theorem Leads.then_move {x : Call.Part} (hx : Leads base s P x)
    (hmove : ∀ t q, Follows base t q → P t q → ∃ u, Reaches t u ∧ Follows base u q ∧ Q u q) : Leads base s Q x := by
  cases x with
  | through q =>
    obtain ⟨t, ht, hf, hP⟩ := hx
    obtain ⟨u, hu, hrest⟩ := hmove t q hf hP
    exact ⟨u, ht.trans hu, hrest⟩
  | failed k q => exact hx

/-- One part after another. -/
theorem Leads.andThen {x : Option Call.Part} {f : Progress → Option Call.Part} {y : Call.Part}
    (hy : Call.Part.andThen x f = some y)
    (hx : ∀ z, x = some z → Leads base s P z)
    (hf : ∀ t q, Follows base t q → P t q → ∀ z, f q = some z → Leads base t Q z) : Leads base s Q y := by
  cases x with
  | none => cases hy
  | some z =>
    cases z with
    | through q =>
      obtain ⟨t, ht, hfol, hP⟩ := hx _ rfl
      exact .of_reaches ht (hf t q hfol hP y hy)
    | failed k q =>
      cases hy
      exact hx (.failed k q) rfl

end follows

/-! ### A port operation -/

/-- Only a line read uses an answer of the script (R144). -/
theorem State.performed_script {s : State} {w : PopWord} (hw : w ≠ 0x400) : (s.performed w).script = s.script := by
  unfold State.performed
  split_ifs <;> rfl

/-- A line read answers from the script (R73, R144). -/
theorem State.performed_read {s : State} {v : Level} {rest : List Level} (hl : s.lineOe = false) (hs : s.script = v :: rest) :
    (s.performed 0x400).popRdata = v ∧ (s.performed 0x400).script = rest :=
  State.answer_script (s := { s with popWord := none }) hl hs

/-- A word issued, POLL perhaps counted, and performed. -/
def State.did (s : State) (n : Byte) (w : PopWord) (m : Micro) : State := (({ s with poll := n } : State).issue w m).performed w

section port
variable {base : List PopWord} {s : State} {p : Progress} {n : Byte} {w : PopWord} {m : Micro}

@[simp] theorem State.did_phase : (s.did n w m).phase = s.phase := by simp [State.did]
@[simp] theorem State.did_poll : (s.did n w m).poll = n := by simp [State.did]
@[simp] theorem State.did_micro : (s.did n w m).micro = m := by simp [State.did]
@[simp] theorem State.did_popWord : (s.did n w m).popWord = none := by simp [State.did]

/-- A word issued and performed, up to what it leaves of the script and counts of polls. -/
theorem Follows.did (h : Follows base s p) (hw : s.popWord = none) (hm : PhaseMove s (({ s with poll := n } : State).issue w m))
    {rest : List Level} {k : Nat} (hs : (s.did n w m).script = rest) (hk : m = .answered → n.toNat = k) :
    Reaches s (s.did n w m) ∧ Follows base (s.did n w m) { p with script := rest, trace := p.trace ++ [w], poll := k } := by
  obtain ⟨hinv, hi, -, htrace, hcount, hsamples, -⟩ := h
  have hissued := hm.inv hinv hw
  have hi' : (({ s with poll := n } : State).issue w m).inputs = [] := hi
  have hstep : step (({ s with poll := n } : State).issue w m) = .next (s.did n w m) :=
    (step_of_no_input hi').trans (hissued.ownStep_performs rfl)
  obtain ⟨⟨-, hidx, -⟩, ⟨hsample, -⟩, -⟩ := (({ s with poll := n } : State).issue w m).performed_sameRegisters w
  refine ⟨(hm.reaches hw hi).trans (.of_step hstep), hissued.after_step hstep, (State.performed_inputs _ w).trans hi, hs,
    ?_, ?_, fun i => ?_, fun hm => ?_⟩
  · rw [State.did, State.performed_trace, State.issue_trace, htrace, List.append_assoc]
  · exact (congrArg BitVec.toNat hidx).trans hcount
  · rw [State.did, hsample]
    exact hsamples i
  · rw [State.did_poll]
    exact hk (State.did_micro.symm.trans hm)

/-- A word that is no read. -/
theorem Follows.exists_issued (h : Follows base s p) (hw : s.popWord = none)
    (hm : PhaseMove s (({ s with poll := n } : State).issue w m)) (hword : w ≠ 0x400) (ha : m ≠ .answered) :
    ∃ t, Reaches s t ∧ Follows base t (p.issued [w]) ∧ t.phase = s.phase ∧ t.micro = m ∧ t.popWord = none ∧
      t.poll = n := by
  have hs : (s.did n w m).script = p.script := (State.performed_script hword).trans h.script
  obtain ⟨hto, hfol⟩ := h.did (k := p.poll) hw hm hs fun h => absurd h ha
  exact ⟨_, hto, hfol, State.did_phase, State.did_micro, State.did_popWord, State.did_poll⟩

/-- The read of a poll, which the next answer of the script answers. -/
theorem Follows.exists_read {v : Level} {rest : List Level} {r : PollingPhase} (h : Follows base s p) (hr : r ∈ pollingPhases)
    (hp : s.phase = r.code) (ht : s.micro = .ticked) (hw : s.popWord = none) (hs : p.script = v :: rest) :
    ∃ t, Reaches s t ∧ Follows base t { p with script := rest, trace := p.trace ++ [0x400], poll := s.poll.toNat } ∧
      t.phase = s.phase ∧ t.micro = .answered ∧ t.popWord = none ∧ t.popRdata = v := by
  have hl := h.inv.lineOe_eq_false (hp ▸ PollingPhase.code_ne_wake hr)
  obtain ⟨hdata, hscript⟩ := State.performed_read (s := s.issue Pop.lineRead .answered) hl (h.script.trans hs)
  obtain ⟨hto, hfol⟩ := h.did (n := s.poll) (k := s.poll.toNat) hw (.pollReads hr hp ht) hscript fun _ => rfl
  exact ⟨_, hto, hfol, State.did_phase, State.did_micro, State.did_popWord, hdata⟩

end port

/-! ### A polling phase -/

/-- The sequencer has the awaited answer, with the samples l taken. -/
def Answered (r : PollingPhase) (l : List Nat) (s : State) (p : Progress) : Prop :=
  s.phase = r.code ∧ s.micro = .answered ∧ s.popWord = none ∧ s.popRdata = r.level ∧ p.samples = l

/-- What PollUntil's answer means to a phase that raises k (R133). -/
def partOf (k : ProtocolError) : Bool × Progress → Call.Part
  | (true, q) => .through q
  | (false, q) => .failed k q

theorem Call.Progress.await_eq (p : Progress) (level : Level) (n : Nat) (k : ProtocolError) :
    p.await level n k = (Progress.polls level n { p with poll := 0 }).map (partOf k) := by
  unfold Progress.await Progress.pollUntil
  split <;> next h => rw [h]; rfl

section polling
variable {base : List PopWord} {s : State} {p : Progress} {r : PollingPhase} {n : Nat} {x : Bool × Progress}

/-- One poll (R147): the wait, then the read; the awaited answer ends the loop, another leaves it the polls that remain. -/
theorem Follows.exists_poll {k : Byte} (h : Follows base s p) (hr : r ∈ pollingPhases) (hp : s.phase = r.code)
    (hw : s.popWord = none) (hm : PhaseMove s ({ s with poll := k } : State).tick) (hk : (k + 1).toNat = p.poll + 1)
    (hx : Progress.polls r.level (n + 1) p = some x) :
    ∃ t q, Reaches s t ∧ Follows base t q ∧ q.poll = p.poll + 1 ∧ q.samples = p.samples ∧ t.phase = r.code ∧
      t.micro = .answered ∧ t.popWord = none ∧
      ((t.popRdata = r.level ∧ x = (true, q)) ∨ (t.popRdata ≠ r.level ∧ Progress.polls r.level n q = some x)) := by
  rw [Progress.polls] at hx
  split at hx
  · cases hx
  next v rest hs =>
  obtain ⟨u, hto, hwait, hpu, hmu, hwu, hku⟩ := h.exists_issued (w := Pop.tick) (m := .ticked) hw hm (by decide) (by decide)
  obtain ⟨t, hto', hread, hpt, hmt, hwt, hdata⟩ := hwait.exists_read hr (hpu.trans hp) hmu hwu hs
  rw [hku, hk, Progress.issued, List.append_assoc] at hread
  refine ⟨t, _, hto.trans hto', hread, rfl, rfl, hpt.trans (hpu.trans hp), hmt, hwt, ?_⟩
  dsimp only at hx
  split at hx
  · next hv => exact .inl ⟨hdata.trans hv, (Option.some.inj hx).symm⟩
  · next hv => exact .inr ⟨hdata ▸ hv, hx⟩

/-- The error entry of a phase (R207), from the functional reading's point of view. -/
theorem Follows.leads_failed {k : ProtocolError} {P : State → Progress → Prop} (h : Follows base s p)
    (hm : PhaseMove s (s.raiseError k)) (hw : s.popWord = none) : Leads base s P (.failed k p) :=
  ⟨s.raiseError k, hm.reaches hw h.inputs, ⟨rfl, rfl, k.code_ne_none⟩, rfl, rfl, rfl, rfl, h.trace, h.script⟩

/-- After an answer that was not awaited: n polls more. -/
theorem Follows.leads_polls {k : ProtocolError} (h : Follows base s p) (hr : r ∈ pollingPhases) (hk : k.code = r.error)
    (hp : s.phase = r.code) (hm : s.micro = .answered) (hw : s.popWord = none) (hv : s.popRdata ≠ r.level)
    (hn : p.poll + n = r.bound) (hx : Progress.polls r.level n p = some x) :
    Leads base s (Answered r p.samples) (partOf k x) := by
  have hpoll := h.polls hm
  induction n generalizing s p with
  | zero =>
    cases hx
    exact h.leads_failed (.pollFails hr hk hp hm hv (hpoll.trans hn)) hw
  | succ n ih =>
    have hbound := (PollingPhase.bound_le hr).2
    have hnext : (s.poll + 1).toNat = p.poll + 1 := by
      rw [← hpoll]
      exact BitVec.toNat_add_of_lt (by simp; omega)
    obtain ⟨t, q, hto, hfol, hqp, hqs, hpt, hmt, hwt, ⟨hdata, rfl⟩ | ⟨hdata, hx⟩⟩ :=
      h.exists_poll hr hp hw (.pollsAgain hr hp hm hv (by omega)) hnext hx
    · exact ⟨t, hto, hfol, hpt, hmt, hwt, hdata, hqs⟩
    · rw [← hqs]
      exact .of_reaches hto (ih hfol hpt hmt hwt hdata (by omega) hx (hfol.polls hmt))

/-- A polling phase from the beginning of its loop (R160, R162, R163, R171, R172). -/
theorem Follows.leads_await {k : ProtocolError} {z : Call.Part} (h : Follows base s p) (hr : r ∈ pollingPhases)
    (hk : k.code = r.error) (hp : s.phase = r.code) (hw : s.popWord = none)
    (hm : s.micro = if r.code = Phase.idleWait then .loop else .enter)
    (hz : p.await r.level r.bound k = some z) : Leads base s (Answered r p.samples) z := by
  have hbegins : PhaseMove s ({ s with poll := 0 } : State).tick := by
    refine .pollBegins hr hp (fun hc => by rw [hm, if_pos hc]) ?_ ?_ <;> · rw [hm]; split <;> decide
  have hfrom : Follows base s { p with poll := 0 } :=
    ⟨h.inv, h.inputs, h.script, h.trace, h.count, h.samples, fun ha => by rw [hm] at ha; split at ha <;> cases ha⟩
  rw [Progress.await_eq, Option.map_eq_some_iff] at hz
  obtain ⟨x, hx, rfl⟩ := hz
  obtain ⟨n, hn⟩ := Nat.exists_eq_add_of_le' (PollingPhase.bound_le hr).1
  rw [hn] at hx
  obtain ⟨t, q, hto, hfol, hqp, hqs, hpt, hmt, hwt, ⟨hdata, rfl⟩ | ⟨hdata, hx⟩⟩ :=
    hfrom.exists_poll hr hp hw hbegins rfl hx
  · exact ⟨t, hto, hfol, hpt, hmt, hwt, hdata, hqs⟩
  · rw [show p.samples = q.samples from hqs.symm]
    exact .of_reaches hto (hfol.leads_polls hr hk hpt hmt hwt hdata (by rw [hqp, hn, Nat.add_comm]) hx)

end polling

/-! ### P1 to P4 -/

section handshake
variable {base : List PopWord} {s : State} {p : Progress}

/-- PHASE moves on, and nothing the functional reading sees changes. -/
theorem Follows.exists_goto {t : State} {q : PhaseCode} (h : Follows base s p) (hw : s.popWord = none)
    (hm : PhaseMove s (t.goto q)) (hi : t.idx = s.idx) (hs : t.sample = s.sample) (hsc : t.script = s.script)
    (htr : t.trace = s.trace) (hwt : t.popWord = none) :
    ∃ u, Reaches s u ∧ Follows base u p ∧ Begins q u p := by
  refine ⟨t.goto q, hm.reaches hw h.inputs, ⟨hm.inv h.inv hw, hm.inputs_eq.trans h.inputs, hsc.trans h.script,
    htr.trans h.trace, ?_, fun i => ?_, nofun⟩, rfl, rfl, hwt⟩
  · rw [State.goto_idx, hi, h.count]
  · rw [State.goto_sample, hs, h.samples]

/-- P2 (R161): its four words, and P3. -/
theorem Follows.exists_wake (h : Follows base s p) (hb : Begins Phase.wake s p) :
    ∃ t, Reaches s t ∧ Follows base t (p.issued [0x200, 0x100, 0x614, 0x000]) ∧ Begins Phase.ackStart t p := by
  obtain ⟨hp, hm, hw⟩ := hb
  obtain ⟨a, hsa, ha, hpa, hma, hwa, -⟩ := h.exists_issued (n := s.poll) (m := .latched) hw
    (.wakeLatches hp (by simp [hm]) (by simp [hm]) (by simp [hm]) (by simp [hm])) (by decide) (by decide)
  obtain ⟨b, hab, hb, hpb, hmb, hwb, -⟩ := ha.exists_issued (n := a.poll) (m := .driven) hwa
    (.wakeDrives (hpa.trans hp) hma) (by decide) (by decide)
  have hpb : b.phase = Phase.wake := hpb.trans (hpa.trans hp)
  obtain ⟨c, hbc, hc, hpc, hmc, hwc, -⟩ := hb.exists_issued (n := b.poll) (m := .held) hwb
    (.wakeHolds hpb hmb) (by decide) (by decide)
  obtain ⟨d, hcd, hd, hpd, hmd, hwd, -⟩ := hc.exists_issued (n := c.poll) (m := .released) hwc
    (.wakeReleases (hpc.trans hpb) hmc) (by decide) (by decide)
  obtain ⟨t, hdt, ht, hbegins⟩ := hd.exists_goto hwd (.wakeEnds (hpd.trans (hpc.trans hpb)) hmd) rfl rfl rfl rfl hwd
  refine ⟨t, hsa.trans (hab.trans (hbc.trans (hcd.trans hdt))), ?_, hbegins⟩
  simp only [Progress.issued, List.append_assoc] at ht
  exact ht

/-- P1 to P4 (R133). -/
theorem Follows.leads_handshake {z : Call.Part} (h : Follows base s p) (hb : Begins Phase.idleWait s p)
    (hz : handshake p = some z) :
    Leads base s (LoopHead 0) z := by
  obtain ⟨hp, hm, hw⟩ := hb
  obtain ⟨a, hsa, ha, hpa, hma, hwa, -⟩ := h.exists_issued (n := s.poll) (m := .loop) hw
    (.releasesLine hp (by simp [hm]) (by simp [hm]) (by simp [hm])) (by decide) (by decide)
  refine .of_reaches hsa (.andThen hz (fun _ => ha.leads_await (r := .p1) (by decide) rfl (hpa.trans hp) hwa hma)
    fun t q hf hP y hy => ?_)
  obtain ⟨hpt, hmt, hwt, hvt, -⟩ := hP
  obtain ⟨b, htb, hfb, hbb⟩ := hf.exists_goto hwt (.lineIsFree hpt hmt hvt) rfl rfl rfl rfl hwt
  obtain ⟨c, hbc, hfc, hpc, hmc, hwc⟩ := hfb.exists_wake hbb
  refine .of_reaches (htb.trans hbc) (.andThen hy (fun _ => hfc.leads_await (r := .p3) (by decide) rfl hpc hwc hmc)
    fun t q hf hP y hy => ?_)
  obtain ⟨hpt, hmt, hwt, hvt, -⟩ := hP
  obtain ⟨d, htd, hfd, hpd, hmd, hwd⟩ := hf.exists_goto hwt (.ackStarts hpt hmt hvt) rfl rfl rfl rfl hwt
  refine .of_reaches htd ((hfd.leads_await (r := .p4) (by decide) rfl hpd hwd hmd hy).then_move fun t q hf hP => ?_)
  obtain ⟨hpt, hmt, hwt, hvt, -⟩ := hP
  have hi : t.idx.toNat = 0 := hf.inv.coherent.idx_before (State.phaseIn_of hpt (by decide))
  have hi0 : 0 = t.idx := (BitVec.eq_of_toNat_eq hi).symm
  obtain ⟨u, hu, hfu, hpu, heu⟩ := hf.exists_goto hwt (.ackEnds hpt hmt hvt) hi0 rfl rfl rfl hwt
  exact ⟨u, hu, hfu, heu, .inl hpu, hf.count.symm.trans hi⟩

end handshake

/-! ### P5 -/

section acquisition
variable {base : List PopWord} {s : State} {p : Progress}

/-- With 41 samples the loop is over, and before it is not. -/
theorem Follows.phase_of_loopHead {n : Nat} (h : Follows base s p) (hl : LoopHead n s p) :
    (n < 41 → s.phase = Phase.sync) ∧ (n = 41 → s.phase = Phase.classify) := by
  obtain ⟨-, hp, hlen⟩ := hl
  have hcount := h.count
  rcases hp with hp | hp
  · have := h.inv.coherent.idx_during (State.phaseIn_of hp (by decide))
    exact ⟨fun _ => hp, by omega⟩
  · have := h.inv.coherent.idx_after (State.phaseIn_of hp (by decide))
    exact ⟨by omega, fun _ => hp⟩

/-- One more sample at the end of the list. -/
theorem getD_append_singleton (l : List Nat) (x i : Nat) : (l ++ [x]).getD i 0 = if i = l.length then x else l.getD i 0 := by
  rcases Nat.lt_trichotomy i l.length with hi | rfl | hi
  · rw [if_neg (by omega), List.getD_append _ _ _ _ hi]
  · simp
  · rw [if_neg (by omega), List.getD_eq_default _ _ (by simp; omega), List.getD_eq_default _ _ (by omega)]

/-- The count of the poll that has just matched, taken as a sample (R173). -/
def Call.Progress.sampled (p : Progress) : Progress := { p with samples := p.samples ++ [p.poll] }

/-- P5B's store (R173) appends the count to the samples. -/
theorem Follows.exists_store {l : List Nat} (h : Follows base s p) (hP : Answered .p5b l s p) :
    ∃ t, Reaches s t ∧ Follows base t p.sampled ∧ LoopHead (p.samples.length + 1) t p.sampled := by
  obtain ⟨hp, hm, hw, hv, -⟩ := hP
  have hi := h.inv.coherent.idx_during (State.phaseIn_of hp (by decide))
  have hmove := PhaseMove.stores hp hm hv hi
  have next {q : PhaseCode} (hq : q = Phase.sync ∨ q = Phase.classify)
      (hmove : PhaseMove s
        (({ s with sample := Memory.write s.sample s.idx.toNat s.poll, idx := s.idx + 1 } : State).goto q)) :
      ∃ t, Reaches s t ∧ Follows base t p.sampled ∧ LoopHead (p.samples.length + 1) t p.sampled := by
    refine ⟨_, hmove.reaches hw h.inputs, ⟨hmove.inv h.inv hw, h.inputs, h.script, h.trace, ?_, fun i => ?_, nofun⟩,
      ⟨rfl, hw⟩, hq, List.length_append⟩
    · rw [State.goto_idx, idx_succ_toNat hi, h.count, Call.Progress.sampled, List.length_append, List.length_singleton]
    · rw [State.goto_sample, Call.Progress.sampled, getD_append_singleton, ← h.count]
      split
      · next heq => rw [heq, Memory.read_write_same _ _ _ 0 h.inv.coherent.sample_wf, h.polls hm]
      · next hne => rw [Memory.read_write_other _ _ _ _ hne, h.samples]
  rcases State.nextSample_cases { s with sample := Memory.write s.sample s.idx.toNat s.poll } hi with
    ⟨-, e⟩ | ⟨-, e⟩ <;> rw [e] at hmove
  · exact next (.inl rfl) hmove
  · exact next (.inr rfl) hmove

/-- One iteration of P5 (R170 to R173). -/
theorem Follows.leads_iteration {z : Call.Part} (h : Follows base s p) (hp : s.phase = Phase.sync) (he : s.entered)
    (hz : iteration p = some z) : Leads base s (LoopHead (p.samples.length + 1)) z := by
  refine .andThen hz (fun _ => h.leads_await (r := .p5a) (by decide) rfl hp he.2 he.1) fun t q hf hP y hy => ?_
  obtain ⟨hpt, hmt, hwt, hvt, hqs⟩ := hP
  obtain ⟨a, hta, hfa, hpa, hma, hwa⟩ := hf.exists_goto hwt (.syncs hpt hmt hvt) rfl rfl rfl rfl hwt
  refine .of_reaches hta (.andThen hy (fun _ => hfa.leads_await (r := .p5b) (by decide) rfl hpa hwa hma)
    fun t q' hf hP y hy => ?_)
  cases hy
  obtain ⟨u, hu, hfu, hlu⟩ := hf.exists_store hP
  obtain ⟨-, -, -, -, hqs'⟩ := hP
  have hlen : q'.samples.length + 1 = p.samples.length + 1 := by rw [hqs', hqs]
  exact ⟨u, hu, hfu, hlen ▸ hlu⟩

/-- The iterations that remain. -/
theorem Follows.leads_iterations {n : Nat} {z : Call.Part} (h : Follows base s p) (hl : LoopHead (41 - n) s p) (hn : n ≤ 41)
    (hz : iterations n p = some z) : Leads base s (Begins Phase.classify) z := by
  induction n generalizing s p z with
  | zero =>
    cases hz
    exact ⟨s, ⟨0, rfl⟩, h, (h.phase_of_loopHead hl).2 rfl, hl.1⟩
  | succ n ih =>
    have hlen : p.samples.length + 1 = 41 - n := by have := hl.2.2; omega
    refine .andThen hz (fun x hx => ?_) fun t q hf hP y hy => ih hf (hlen ▸ hP) (by omega) hy
    exact h.leads_iteration ((h.phase_of_loopHead hl).1 (by omega)) hl.1 hx

end acquisition

/-! ### P6 to P9 -/

section decoding
variable {base : List PopWord} {s : State} {p : Progress}

/-- One more sample of a field. -/
theorem fieldOf_succ (l : List Nat) (first n : Nat) :
    fieldOf l first (n + 1) = 2 * fieldOf l first n + (if l.getD (first + n) 0 > 5 then 1 else 0) := by
  rw [fieldOf, List.range_succ, List.foldl_append]
  rfl

/-- A field of the classified frame is the field of the samples (R91, R93, R180). -/
theorem Follows.assemble_classifyAll (h : Follows base s p) {first n : Nat} (hn : first + n ≤ 41) :
    (assemble (classifyAll s.sample s.bits) first n).toNat = fieldOf p.samples first n := by
  rw [assemble_toNat _ _ _ hn]
  induction n with
  | zero => rfl
  | succ n ih =>
    have hbit : (classifyAll s.sample s.bits).getLsbD (40 - (first + n)) = true ↔ 5 < p.samples.getD (first + n) 0 := by
      rw [← bitAt_eq _ _ (by omega), bitAt_classifyAll _ _ _ (by omega), classifyCount_iff, h.samples]
    rw [fieldSum_succ, fieldOf_succ, ih (by omega)]
    exact congrArg _ (if_congr hbit rfl rfl)

/-- P6 to P8 (R180 to R183): the fields of the classified frame and the results they convert to stand in the registers. -/
theorem exists_converted {s : State} (hp : s.phase = Phase.classify) (hw : s.popWord = none) (hi : s.inputs = []) :
    ∃ t, Reaches s t ∧ t.phase = Phase.verify ∧ t.popWord = none ∧ t.inputs = [] ∧ t.trace = s.trace ∧
      t.script = s.script ∧ t.humRaw = frameHum (classifyAll s.sample s.bits) ∧
      t.tempRaw = frameTemp (classifyAll s.sample s.bits) ∧ t.chkRx = frameChk (classifyAll s.sample s.bits) ∧
      t.humX10 = humValue t.humRaw ∧ t.tempX10 = tempValue t.tempRaw ∧
      t.tempNeg = tempSign t.tempRaw := by
  have h6 := (PhaseMove.classifies hp).reaches hw hi
  have h7 := (PhaseMove.extracts (s := ({ s with bits := classifyAll s.sample s.bits } : State).goto Phase.extract)
    rfl).reaches hw hi
  exact ⟨_, h6.trans (h7.trans ((PhaseMove.converts rfl).reaches hw hi)), rfl, hw, hi, rfl, rfl, rfl, rfl, rfl, rfl, rfl, rfl⟩

/-- P6 to P9 from the samples (R187, R190, R191): they are judged as the functional reading judges them. -/
theorem Follows.exists_judgement (h : Follows base s p) (hb : Begins Phase.classify s p) :
    ∃ t, Reaches s t ∧ EndsAs base t (judgement p) := by
  obtain ⟨t, hto, hp, hw, hi, htrace, hscript, hhum, htemp, hchk, hx, hy, hneg⟩ := exists_converted hb.1 hb.2.2 h.inputs
  have hhumNat : t.humRaw.toNat = fieldOf p.samples 1 16 := by rw [hhum]; exact h.assemble_classifyAll (by decide)
  have htempNat : t.tempRaw.toNat = fieldOf p.samples 17 16 := by rw [htemp]; exact h.assemble_classifyAll (by decide)
  have hchkNat : t.chkRx.toNat = fieldOf p.samples 33 8 := by rw [hchk]; exact h.assemble_classifyAll (by decide)
  have htrace := htrace.trans h.trace
  have hscript := hscript.trans h.script
  have hends := hto.trans ((PhaseMove.verifies hp).reaches hw hi)
  have hsum : checksum t.humRaw t.tempRaw = t.chkRx ↔
      byteSumOf (fieldOf p.samples 1 16) (fieldOf p.samples 17 16) = fieldOf p.samples 33 8 := by
    rw [checksum_eq_iff, ← hhumNat, ← htempNat, ← hchkNat]
    rfl
  refine ⟨_, hends, ?_⟩
  unfold judgement
  dsimp only
  by_cases hc : checksum t.humRaw t.tempRaw = t.chkRx
  · rw [if_pos (hsum.1 hc), State.judge_equal (s := (t.pass Config.tPost).computeChecksum) hc]
    refine ⟨⟨rfl, rfl, by simp [ProtocolOutcome.code]⟩, rfl, ?_, ?_, ?_, htrace, hscript⟩
    · exact (congrArg BitVec.toNat hx).trans (by rw [humValue_toNat, hhumNat])
    · exact (congrArg BitVec.toInt hy).trans (by rw [tempValue_toInt, htempNat])
    · exact hneg.trans (Bool.eq_iff_iff.2 (by rw [tempSign_iff, htempNat, decide_eq_true_eq]))
  · rw [if_neg (mt hsum.2 hc), State.judge_unequal (s := (t.pass Config.tPost).computeChecksum) hc]
    exact ⟨⟨rfl, rfl, ProtocolError.checksumMismatch.code_ne_none⟩, rfl, rfl, rfl, rfl, htrace, hscript⟩

end decoding

/-! ### The whole call -/

/-- START brings the machine to where the functional reading begins (R131). -/
theorem Inv.follows_startCall {s : State} (h : Inv s) (hb : s.busy = false) (hi : s.inputs = []) :
    Follows s.trace s.startCall ⟨s.script, [], 0, []⟩ :=
  ⟨h.startCall hb, hi, rfl, (List.append_nil _).symm, rfl, fun _ => rfl, nofun⟩

/-- The functional reading of a call is what the machine does from P1 on. -/
theorem Follows.exists_end {base : List PopWord} {s : State} {e : CallEnd} (h : Follows base s ⟨s.script, [], 0, []⟩)
    (hb : Begins Phase.idleWait s ⟨s.script, [], 0, []⟩) (he : Call.run s.script = some e) :
    ∃ t, Reaches s t ∧ EndsAs base t e := by
  have leads {z : Call.Part} (hz : Call.Part.andThen (handshake ⟨s.script, [], 0, []⟩) (iterations 41) = some z) :
      Leads base s (Begins Phase.classify) z :=
    .andThen hz (fun _ => h.leads_handshake hb) fun _ _ hf hl _ hy => hf.leads_iterations hl le_rfl hy
  unfold Call.run at he
  split at he
  · cases he
  · next k p hz =>
    cases he
    exact leads hz
  · next p hz =>
    cases he
    obtain ⟨t, hto, hf, hP⟩ := leads hz
    obtain ⟨u, hu, hend⟩ := hf.exists_judgement hP
    exact ⟨u, hto.trans hu, hend⟩

/-- Settles O56: START brings the machine to the beginning of the functional reading, and it follows it to its end. -/
theorem callIsTheFunction : Obligations.CallIsTheFunction := by
  intro s v e h hb hi hv he
  have hstart := step_of_start hi hv hb
  have hc : Inv { s with inputs := [] } := by
    have := h.consumed
    rwa [State.consumed_of_cons hi] at this
  have hw : s.popWord = none := (h.placed_idle (h.phase_of_idle hb)).1
  obtain ⟨t, hto, hend⟩ := (hc.follows_startCall hb rfl).exists_end ⟨rfl, rfl, hw⟩ he
  obtain ⟨n, hn⟩ := (Reaches.of_step hstart).trans hto
  exact ⟨n, t, hn, hend.ended, hend.outcome, hend.humidity, hend.temperature, hend.negative, hend.trace, hend.script⟩

end Sys2Proof.Machine
end

section
/-! PROOFS. The port operations and the poll (41_primitives.md R140 to R148, R215, R216; 42_handshake.md R164): what is in flight is
performed, each operation writes what it says and nothing else, and the five polling phases run one loop. -/

namespace Sys2Proof.Machine

/-! ### What a step runs at the port and at the test seam -/

/-- A word that decodes to a well-formed instruction is fetched as that instruction (R103). -/
theorem fetchWord_of_wellFormed {f : WordFormat} {w : Word} {i : Instr} {s : State} (hd : decode f w = .ok i)
    (hf : i.wellFormed = true) : fetchWord f w s = .instr i s := by
  rw [fetchWord, hd]
  exact if_pos hf

/-- Settles O6: with no other event the step is the block's own move, and that performs the word in flight. -/
theorem stepPerformsPortOperation : Obligations.StepPerformsPortOperation := by
  intro s w i rest hw h5 h6 hd hf
  have perform {u : State} (hu : u.popWord = some w) : ownStep u = exec i { u with popWord := none } := by
    rw [ownStep, fetchOwn_word hu ((waitMeant_iff w).2 ⟨h5, h6⟩) hd hf, Fetched.outcome]
  refine ⟨fun hi => ?_, fun hi => ?_⟩
  · rw [step_of_no_input hi, perform hw]
  · rw [step_of_run hi]
    exact perform hw

/-- Settles O12: a stall is settled by the fetch, and the seam fetches the word it carries. -/
theorem stepStallAndSeam : Obligations.StepStallAndSeam := by
  refine fun s rest => ⟨fun hi => step_of_event hi, fun f w i hi hd hf => ?_⟩
  rw [step_of_event hi, fetchEvent, fetchWord_of_wellFormed hd hf, Fetched.outcome]

/-! ### The port operations (R140 to R146) -/

theorem State.sameRegisters_refl (s : State) : s.sameRegisters s :=
  ⟨⟨rfl, rfl, rfl⟩, ⟨rfl, fun _ => rfl⟩, ⟨rfl, rfl, rfl, rfl, rfl⟩, ⟨rfl, rfl, rfl⟩, rfl, rfl, rfl⟩

/-- Ghost time passing touches no register, neither latch, neither the port nor the outside world (R244). -/
theorem State.pass_frame (s : State) (ns : Nat) :
    s.sameRegisters (s.pass ns) ∧ s.sameLine (s.pass ns) ∧ s.samePort (s.pass ns) ∧ s.sameWorld (s.pass ns) :=
  ⟨s.sameRegisters_refl, ⟨rfl, rfl⟩, ⟨rfl, rfl, rfl, rfl⟩, rfl, rfl, rfl⟩

/-- Settles O29: each operation is its latch written over a passage of time. -/
theorem driveOperations : Obligations.DriveOperations := by
  intro n s
  obtain ⟨hregs, ⟨hoe, hout⟩, hport, hworld⟩ := s.pass_frame (Config.driveLength s.draws)
  have hclock : s.clock ≤ s.passDrive.clock := Nat.le_add_right _ _
  exact ⟨⟨_, rfl, rfl, hout, hregs, hport, hworld, hclock⟩, ⟨_, rfl, rfl, hout, hregs, hport, hworld, hclock⟩,
    ⟨_, rfl, hoe, rfl, hregs, hport, hworld, hclock⟩, ⟨_, rfl, hoe, rfl, hregs, hport, hworld, hclock⟩⟩

/-- The free values T_JIT and T_OVH bound are cut to their bound by a remainder (log 17). -/
theorem mod_succ_le (x b : Nat) : x % (b + 1) ≤ b := Nat.le_of_lt_succ (Nat.mod_lt x b.succ_pos)

/-- Settles O30: the answer and the script are those of the three cases of the line, over a passage of at most T_OVH. -/
theorem lineReadAnswers : Obligations.LineReadAnswers := by
  intro n s
  obtain ⟨hregs, hline, ⟨hword, -, htrace, hmicro⟩, hinputs, -, hhost⟩ :=
    s.pass_frame (Config.readLength s.draws % (Config.tOvh + 1))
  exact ⟨{ s.passRead with popRdata := s.nextAnswer, script := s.scriptAfter }, rfl,
    fun _ _ => State.answer_script, State.answer_free, State.answer_driven, hregs, hline, hword, htrace, hmicro, hinputs, hhost,
    Nat.le_add_right _ _, Nat.add_le_add_left (mod_succ_le _ _) _⟩

/-- A wait changes nothing but the time, which grows by what was asked and at most T_JIT more (R145, R146, R7). -/
theorem State.passWait_frame (s : State) (asked : Nat) :
    s.sameRegisters (s.passWait asked) ∧ s.sameLine (s.passWait asked) ∧ s.samePort (s.passWait asked) ∧
      s.sameWorld (s.passWait asked) ∧ s.clock + asked ≤ (s.passWait asked).clock ∧
      (s.passWait asked).clock ≤ s.clock + asked + Config.tJit := by
  obtain ⟨hregs, hline, hport, hworld⟩ := s.pass_frame (asked + Config.waitLateness s.draws % (Config.tJit + 1))
  have hlate := mod_succ_le (Config.waitLateness s.draws) Config.tJit
  refine ⟨hregs, hline, hport, hworld, ?_, ?_⟩ <;> rw [State.passWait, State.pass_clock] <;> omega

/-- Settles O31: both waits are passWait, in nanoseconds. -/
theorem waitsLast : Obligations.WaitsLast := fun n s =>
  ⟨⟨_, rfl, s.passWait_frame (1000 * n.toNat)⟩, ⟨_, rfl, s.passWait_frame (1000000 * n.toNat)⟩⟩

/-! ### The poll in the five polling phases (R147, R164) -/

/-- A polling phase inside its loop means the poll of its row of R164, with the row's error. -/
theorem exec_of_polling {s : State} {r : PollingPhase} (hr : r ∈ pollingPhases)
    (hl : r.instr = .idleWait → s.micro = .loop ∨ s.micro = .ticked ∨ s.micro = .answered) :
    ∃ k onMatch, k.code = r.error ∧ exec r.instr s = s.pollPhase r.level (BitVec.ofNat 8 r.bound) k onMatch := by
  simp only [pollingPhases, List.mem_cons, List.not_mem_nil, or_false] at hr
  rcases hr with rfl | rfl | rfl | rfl | rfl
  · exact ⟨.busHung, _, rfl, execIdleWait_of_loop (hl rfl)⟩
  · exact ⟨.notPresent, _, rfl, rfl⟩
  · exact ⟨.ackTooLong, _, rfl, rfl⟩
  · exact ⟨.syncTimeout, _, rfl, rfl⟩
  · exact ⟨.dataTimeout, _, rfl, rfl⟩

/-- A word presented is in flight and in the trace, and the rest of the outside is as it was (R148). -/
theorem State.issued_issue (s : State) (w : PopWord) (m : Micro) : s.issued (s.issue w m) w m :=
  ⟨rfl, rfl, rfl, rfl, ⟨rfl, rfl⟩, ⟨rfl, rfl, rfl⟩, rfl, rfl⟩

/-- The tick of a poll counts POLL on from n and issues WAIT_US 2; every other register is kept (R147). -/
theorem State.tick_frame (s : State) (n : Byte) :
    let t := ({ s with poll := n } : State).tick
    t.poll = n + 1 ∧ s.issued t 0x502 .ticked ∧ t.phase = s.phase ∧ t.idx = s.idx ∧ s.sameSamples t ∧ s.sameDecoder t ∧
      s.sameResults t ∧ s.sameStatus t := by
  obtain ⟨⟨hphase, hidx, -⟩, hkept⟩ := s.sameRegisters_refl
  exact ⟨rfl, ({ s with poll := n + 1 } : State).issued_issue Pop.tick .ticked, hphase, hidx, hkept⟩

/-- Settles O18: outside a poll the loop's first tick counts POLL from 0. -/
theorem pollBegins : Obligations.PollBegins := by
  intro r hr s ht ha hl
  obtain ⟨k, onMatch, -, hexec⟩ := exec_of_polling hr fun hi => .inl (hl hi)
  rw [State.pollPhase, State.pollUntil_begin ht ha] at hexec
  exact ⟨_, hexec, s.tick_frame 0⟩

/-- Settles O19: after the wait LINE_READ is issued. -/
theorem pollReads : Obligations.PollReads := by
  intro r hr s ht
  obtain ⟨k, onMatch, -, hexec⟩ := exec_of_polling hr fun _ => .inr (.inl ht)
  rw [State.pollPhase, State.pollUntil_ticked ht] at hexec
  exact ⟨_, hexec, s.issued_issue _ _, s.sameRegisters_refl⟩

/-- Settles O20: below the bound the next tick counts POLL on. -/
theorem pollGoesOn : Obligations.PollGoesOn := by
  intro r hr s ha hv hn
  obtain ⟨k, onMatch, -, hexec⟩ := exec_of_polling hr fun _ => .inr (.inr ha)
  rw [State.pollPhase, State.pollUntil_again ha hv (mt (PollingPhase.poll_eq_bound hr _).1 hn)] at hexec
  exact ⟨_, hexec, s.tick_frame s.poll⟩

/-- Settles O21: at the bound the error of the row is raised, in no time. -/
theorem pollFails : Obligations.PollFails := by
  intro r hr s ha hv hn
  obtain ⟨k, onMatch, hk, hexec⟩ := exec_of_polling hr fun _ => .inr (.inr ha)
  rw [State.pollPhase, State.pollUntil_bound ha hv ((PollingPhase.poll_eq_bound hr _).2 hn)] at hexec
  exact ⟨_, hexec, hk ▸ s.raised_raiseError k, rfl, rfl⟩

/-- The awaited answer takes a polling phase its way on (R147). -/
theorem State.pollPhase_of_level {s : State} {level : Level} {bound : Byte} {k : ProtocolError}
    {onMatch : State → Host.Outcome State Fault Refusal} (ha : s.micro = .answered) (hv : s.popRdata = level) :
    s.pollPhase level bound k onMatch = onMatch s := by
  rw [State.pollPhase, State.pollUntil_level ha hv]

/-- Moving to the start of a phase, IDX perhaps written, keeps every other register (R21, R22). -/
theorem State.goto_frame (s : State) (i : BitVec 6) (p : PhaseCode) :
    let t := ({ s with idx := i } : State).goto p
    s.movedTo t p ∧ t.idx = i ∧ s.sameSamples t ∧ s.sameDecoder t ∧ s.sameResults t := by
  obtain ⟨⟨-, -, hpoll⟩, hsamples, hdecoder, hresults, hstatus⟩ := s.sameRegisters_refl
  exact ⟨⟨rfl, rfl, hpoll, hstatus, ⟨rfl, rfl⟩, ⟨rfl, rfl, rfl⟩, ⟨rfl, rfl⟩, rfl, rfl, rfl⟩, rfl, hsamples, hdecoder, hresults⟩

/-- Settles O22: each way on is a move to the next phase's start. -/
theorem pollMatches : Obligations.PollMatches := by
  refine fun s ha => ⟨fun hv => ⟨?_, ?_, ?_⟩, fun hv => ?_⟩
  · exact ⟨_, (execIdleWait_of_loop (.inr (.inr ha))).trans (State.pollPhase_of_level ha hv), s.goto_frame s.idx Phase.wake⟩
  · exact ⟨_, State.pollPhase_of_level ha hv, s.goto_frame s.idx Phase.ackEnd⟩
  · exact ⟨_, State.pollPhase_of_level ha hv, s.goto_frame s.idx Phase.measure⟩
  · exact ⟨_, State.pollPhase_of_level ha hv, s.goto_frame 0 Phase.sync⟩

end Sys2Proof.Machine
end

section
/-! PROOFS. P1's beginning and the wake pulse of P2 (42_handshake.md R160, R161, R239; 70_reset_and_hazards.md R244): the words, and
how long the line is held low. -/

namespace Sys2Proof.Machine

/-! ### The words of P1's beginning and of P2 -/

/-- An instruction that presents a word and does no more changes no register (R148). -/
theorem exists_issued_of_exec {i : Instr} {s : State} {w : PopWord} {m : Micro} (h : exec i s = .next (s.issue w m)) :
    ∃ t, exec i s = .next t ∧ s.issued t w m ∧ s.sameRegisters t :=
  ⟨_, h, s.issued_issue w m, s.sameRegisters_refl⟩

/-- Settles O17: outside its loop P1 presents SET_INPUT. -/
theorem idleWaitReleasesLine : Obligations.IdleWaitReleasesLine :=
  fun _ hl ht ha => exists_issued_of_exec (execIdleWait_of_not_loop hl ht ha)

/-- Settles O24: four places present a word each, and the place after the last moves to P3. -/
theorem wakeSequence : Obligations.WakeSequence := by
  refine fun s => ⟨fun hm => ?_, fun hm => ?_, fun hm => ?_, fun hm => ?_, fun hl hd hh hr => ?_⟩
  · exact exists_issued_of_exec (w := Pop.setOutput) (by rw [exec, execWake, hm])
  · exact exists_issued_of_exec (w := Pop.wakeHold) (by rw [exec, execWake, hm])
  · exact exists_issued_of_exec (w := Pop.setInput) (by rw [exec, execWake, hm])
  · exact ⟨s.goto Phase.ackStart, by rw [exec, execWake, hm], s.goto_frame s.idx Phase.ackStart⟩
  · exact exists_issued_of_exec (execWake_of_other hl hd hh hr)

/-! ### The block's own moves as steps -/

/-- One step more. -/
theorem steps_then {s t u : State} {n : Nat} (h : steps n s = .next t) (hu : step t = .next u) : steps (n + 1) s = .next u :=
  (steps_add h).trans (steps_succ hu)

/-- Left to itself the block performs the word in flight (R148). -/
theorem step_of_word {s : State} {w : PopWord} (hi : s.inputs = []) (hw : s.popWord = some w) (hm : w ∈ issuedWords) :
    step s = .next (s.performed w) :=
  (step_of_no_input hi).trans (ownStep_of_word hw hm)

/-- Left to itself with an empty port it makes the move of its phase (R21). -/
theorem PhaseMove.step_eq {s t : State} (h : PhaseMove s t) (hi : s.inputs = []) (hw : s.popWord = none) : step s = .next t :=
  (step_of_no_input hi).trans (h.ownStep_eq hw)

/-! ### The wake pulse -/

/-- In P2 at the place m, left to itself, with the line driven low. -/
structure State.Pulsing (s : State) (m : Micro) : Prop where
  phase : s.phase = Phase.wake
  micro : s.micro = m
  inputs : s.inputs = []
  lineOe : s.lineOe = true
  lineOut : s.lineOut = false

section pulsing
variable {s : State} {m : Micro}

theorem State.Pulsing.drivenLevel (h : s.Pulsing m) : s.drivenLevel = some false := by
  rw [State.drivenLevel_of_output h.lineOe, h.lineOut]

/-- A word presented leaves the line driven. -/
theorem State.Pulsing.issue (h : s.Pulsing m) (w : PopWord) (m' : Micro) : (s.issue w m').Pulsing m' :=
  ⟨h.phase, rfl, h.inputs, h.lineOe, h.lineOut⟩

/-- The wait of 20 ms leaves the line driven (R146). -/
theorem State.Pulsing.performed_hold (h : s.Pulsing m) : (s.performed 0x614).Pulsing m :=
  ⟨(s.performed_phase _).trans h.phase, (s.performed_micro _).trans h.micro, (s.performed_inputs _).trans h.inputs,
    by simpa using h.lineOe, s.performed_lineOut _ h.lineOut⟩

/-- SET_OUTPUT is in flight only in P2, and begins the pulse: the latch is low already (R43, R161). -/
theorem Inv.pulsing_of_setOutput (h : Inv s) (hi : s.inputs = []) (hw : s.popWord = some 0x100) :
    (s.performed 0x100).Pulsing .driven := by
  cases h.flight hw with
  | drive _ hp hm =>
    exact ⟨(s.performed_phase _).trans hp, (s.performed_micro _).trans hm, (s.performed_inputs _).trans hi,
      by simp, s.performed_lineOut _ h.spec.line_out⟩
  | _ => contradiction

end pulsing

/-- The hold takes 20 ms of ghost time at least (R146, R244). -/
theorem State.clock_performed_hold (s : State) : s.clock + 20000000 ≤ (s.performed 0x614).clock := by
  obtain ⟨-, -, -, -, hclock, -⟩ := State.passWait_frame { s with popWord := none } 20000000
  exact hclock

/-- Settles O58: SET_OUTPUT is performed, the hold presented and performed, SET_INPUT presented and performed; the line turns only
with the first and the last, and all the time between is the hold's. -/
theorem wakePulseLastsTwentyMs : Obligations.WakePulseLastsTwentyMs := by
  intro s h hi hw
  have driven := h.pulsing_of_setOutput hi hw
  have holding := driven.issue Pop.wakeHold .held
  have held := holding.performed_hold
  have releasing := held.issue Pop.setInput .released
  have steps1 := steps_then (steps_zero s) (step_of_word hi hw (by decide))
  have steps2 := steps_then steps1
    ((PhaseMove.wakeHolds driven.phase driven.micro).step_eq driven.inputs (State.performed_popWord _ _))
  have steps3 := steps_then steps2 (step_of_word (w := 0x614) holding.inputs rfl (by decide))
  have steps4 := steps_then steps3
    ((PhaseMove.wakeReleases held.phase held.micro).step_eq held.inputs (State.performed_popWord _ _))
  have steps5 := steps_then steps4 (step_of_word (w := 0x000) releasing.inputs rfl (by decide))
  exact ⟨_, _, _, _, _, steps1, steps2, steps3, steps4, steps5, driven.drivenLevel, holding.drivenLevel, held.drivenLevel,
    releasing.drivenLevel, State.drivenLevel_of_input (by simp), State.clock_performed_hold _⟩

end Sys2Proof.Machine
end

section
/-! PROOFS. The acquisition loop's store (43_sampling.md R170, R172, R173): P5B writes SAMPLE at IDX, and beside START and reset
nothing else of the agents' steps writes it. -/

namespace Sys2Proof.Machine

/-- The loop's control as one move (R21, R170): to P5A while samples are missing, else to P6. -/
theorem State.nextSample_eq_goto {s : State} (h : s.idx.toNat ≤ 40) :
    s.nextSample = ({ s with idx := s.idx + 1 } : State).goto (if s.idx.toNat + 1 < 41 then 5 else 7) := by
  rcases s.nextSample_cases h with ⟨hlt, e⟩ | ⟨heq, e⟩ <;> rw [e]
  · rw [if_pos (by omega)]; rfl
  · rw [if_neg (by omega)]; rfl

/-- Settles O23: the awaited low leaves the poll; inside the space the store and the move of the loop's control follow, outside it
there is no store. -/
theorem measureStoresSample : Obligations.MeasureStoresSample := by
  intro s ha hv hwf
  have hexec : exec .measure s = s.takeSample := State.pollPhase_of_level ha hv
  refine ⟨fun hi => ?_, fun hi => ?_⟩
  · obtain ⟨hmoved, hidx, ⟨hsample, -⟩, hdecoder, hresults⟩ :=
      ({ s with sample := Memory.write s.sample s.idx.toNat s.poll } : State).goto_frame (s.idx + 1)
        (if s.idx.toNat + 1 < 41 then 5 else 7)
    refine ⟨_, ?_, ?_, fun a ha => ?_, (congrArg _ hidx).trans (idx_succ_toNat hi), hmoved, hdecoder, hresults⟩
    · rw [hexec, State.takeSample, State.storeSample_some hi]
      exact congrArg Host.Outcome.next (State.nextSample_eq_goto hi)
    · rw [hsample, Memory.read_write_same _ _ _ 0 hwf]
    · rw [hsample, Memory.read_write_other _ _ _ _ ha]
  · rw [hexec, State.takeSample, State.storeSample_none hi]

/-- Of the phases' moves only P5B's store touches SAMPLE (R173, R174). -/
theorem PhaseMove.keeps_or_stores_sample {s t : State} (h : PhaseMove s t) :
    t.sample = s.sample ∨
      (s.phase = 6 ∧ s.micro = .answered ∧ s.popRdata = false ∧ t.sample = Memory.write s.sample s.idx.toNat s.poll) := by
  cases h with
  | stores hp ha hv => exact .inr ⟨hp, ha, hv, State.nextSample_sample _⟩
  | verifies => exact .inl (State.judge_sample _)
  | _ => exact .inl rfl

/-- The port's operations leave SAMPLE alone (R215, R216). -/
@[simp] theorem State.performed_sample (s : State) (w : PopWord) : (s.performed w).sample = s.sample := by
  obtain ⟨-, ⟨hsample, -⟩, -⟩ := s.performed_sameRegisters w
  exact hsample

/-- Settles O49: of the agents' events only START writes SAMPLE, and of the block's own moves only P5B's store. -/
theorem samplesWrittenOnlyByMeasure : Obligations.SamplesWrittenOnlyByMeasure := by
  intro s t h hreset ht hne
  rcases step_cases h.coherent.agents ht with hown | rfl | ⟨r, rfl⟩ | ⟨hstart, hb, rfl⟩ | ⟨hr, rfl⟩
  · cases hw : s.popWord with
    | some w =>
      rw [h.consumed.ownStep_performs hw] at hown
      cases hown
      exact absurd (s.consumed.performed_sample w) hne
    | none =>
      obtain ⟨hp, ha, hv, hsample⟩ :=
        (PhaseMove.of_ownStep (s := s.consumed) hw hown).keeps_or_stores_sample.resolve_left hne
      refine .inr ⟨hp, ha, hv, rfl, ?_, fun i hi => ?_⟩ <;> rw [hsample]
      · exact Memory.read_write_same _ _ _ 0 h.coherent.sample_wf
      · exact Memory.read_write_other _ _ _ _ hi
  · exact absurd rfl hne
  · exact absurd rfl hne
  · exact .inl ⟨hb, hstart, rfl⟩
  · exact absurd hreset hr

end Sys2Proof.Machine
end

section
/-! PROOFS. The decoding phases (44_decode.md R180 to R183, R187; 45_checksum.md R190, R191): what P6 and P8 put in the registers, and
that P6 to P9 see of the samples their classification alone. -/

namespace Sys2Proof.Machine

/-! ### P6 -/

/-- R180 by the frame's own numbering of its bits (R25): BIT[i] is bit 40 - i. -/
theorem getLsbD_classifyAll (m : List Host.Cell) (f : Frame) {i : Nat} (hi : i ≤ 40) :
    (classifyAll m f).getLsbD (40 - i) = true ↔ 5 < (Memory.read m i).toNat := by
  rw [← bitAt_eq _ _ (by omega), bitAt_classifyAll _ _ _ (by omega), classifyCount_iff]

/-- Settles O25: the classified frame is written, then the move to P7. -/
theorem classifyBits : Obligations.ClassifyBits := by
  intro s
  obtain ⟨hmoved, hidx, hsamples, ⟨-, hhum, htemp, hrx, hcalc⟩, hresults⟩ :=
    ({ s with bits := classifyAll s.sample s.bits } : State).goto_frame s.idx Phase.extract
  exact ⟨_, rfl, fun i hi => getLsbD_classifyAll s.sample s.bits hi, hmoved, hidx, hsamples, hhum, htemp, hrx, hcalc, hresults⟩

/-! ### P8 -/

/-- Settles O27: the two conversions are written, then the move to P9. -/
theorem convertValues : Obligations.ConvertValues := by
  intro s
  obtain ⟨hmoved, hidx, hsamples, hdecoder, -⟩ :=
    ((s.convertHum s.humRaw).convertTemp s.tempRaw).goto_frame s.idx Phase.verify
  exact ⟨_, rfl, humValue_toNat s.humRaw, tempSign_iff s.tempRaw, tempValue_toInt s.tempRaw, hmoved, hidx, hsamples, hdecoder⟩

/-! ### P6 to P9 see only the classification -/

/-- Samples classified alike make one frame, whatever stood in BIT before (R180). -/
theorem classifyAll_congr {m m' : List Host.Cell} (f f' : Frame)
    (h : ∀ i, i ≤ 40 → (5 < (Memory.read m i).toNat ↔ 5 < (Memory.read m' i).toNat)) : classifyAll m f = classifyAll m' f' := by
  refine frame_ext _ _ fun i hi => ?_
  have hi : i ≤ 40 := by omega
  rw [bitAt_eq _ _ (by omega), bitAt_eq _ _ (by omega), Bool.eq_iff_iff, getLsbD_classifyAll m f hi,
    getLsbD_classifyAll m' f' hi, h i hi]

/-- The decoder and the results hold what P6 to P9 make of the classified frame f before the verdict (R180 to R183, R190). -/
structure Decoded (f : Frame) (s : State) : Prop where
  bits : s.bits = f
  humRaw : s.humRaw = frameHum f
  tempRaw : s.tempRaw = frameTemp f
  chkRx : s.chkRx = frameChk f
  chkCalc : s.chkCalc = checksum (frameHum f) (frameTemp f)
  humX10 : s.humX10 = humValue (frameHum f)
  tempX10 : s.tempX10 = tempValue (frameTemp f)
  tempNeg : s.tempNeg = tempSign (frameTemp f)

theorem Decoded.sameDecoder {f : Frame} {s t : State} (h : Decoded f s) (h' : Decoded f t) : s.sameDecoder t :=
  ⟨h'.bits.trans h.bits.symm, h'.humRaw.trans h.humRaw.symm, h'.tempRaw.trans h.tempRaw.symm, h'.chkRx.trans h.chkRx.symm,
    h'.chkCalc.trans h.chkCalc.symm⟩

theorem Decoded.sameResults {f : Frame} {s t : State} (h : Decoded f s) (h' : Decoded f t) : s.sameResults t :=
  ⟨h'.humX10.trans h.humX10.symm, h'.tempX10.trans h.tempX10.symm, h'.tempNeg.trans h.tempNeg.symm⟩

/-- Left to itself at P6 the block decodes the classified frame and judges it four steps later (log 20). -/
theorem exists_decoded {s : State} (hp : s.phase = Phase.classify) (hw : s.popWord = none) (hi : s.inputs = []) :
    ∃ t, steps 4 s = .next t.judge ∧ Decoded (classifyAll s.sample s.bits) t := by
  have steps1 := steps_then (steps_zero s) ((PhaseMove.classifies hp).step_eq hi hw)
  have steps2 := steps_then steps1 ((PhaseMove.extracts rfl).step_eq hi hw)
  have steps3 := steps_then steps2 ((PhaseMove.converts rfl).step_eq hi hw)
  have steps4 := steps_then steps3 ((PhaseMove.verifies rfl).step_eq hi hw)
  exact ⟨_, steps4, rfl, rfl, rfl, rfl, rfl, rfl, rfl, rfl⟩

/-- The verdict and what it leaves depend on the decoder and the results alone (R191, R134, R207). -/
theorem State.judge_congr {s t : State} (hd : s.sameDecoder t) (hx : s.sameResults t) :
    s.judge.sameDecoder t.judge ∧ s.judge.sameResults t.judge ∧ s.judge.sameStatus t.judge := by
  have ⟨_, _, _, hrx, hcalc⟩ := hd
  by_cases hc : s.chkCalc = s.chkRx
  · rw [State.judge_equal hc, State.judge_equal (s := t) (by rw [hcalc, hrx, hc])]
    exact ⟨hd, hx, rfl, rfl, rfl⟩
  · rw [State.judge_unequal hc, State.judge_unequal (s := t) (by rwa [hcalc, hrx])]
    exact ⟨hd, ⟨rfl, rfl, rfl⟩, rfl, rfl, rfl⟩

/-- Settles O40: both states decode and judge one frame. -/
theorem decodeSeesOnlyClassification : Obligations.DecodeSeesOnlyClassification := by
  intro s s' hp hp' hw hw' hi hi' halike
  obtain ⟨t, ht, hdec⟩ := exists_decoded hp hw hi
  obtain ⟨t', ht', hdec'⟩ := exists_decoded hp' hw' hi'
  rw [← classifyAll_congr s.bits s'.bits halike] at hdec'
  exact ⟨_, _, ht, ht', State.judge_congr (hdec.sameDecoder hdec') (hdec.sameResults hdec')⟩

end Sys2Proof.Machine
end

section
/-! PROOFS. The checksum (45_checksum.md R190 to R192; 20_memory.md R64): P9's two ends, the validator, and that one wrong bit
among BIT[1..40] is always detected: it lies in one of the five bytes the checksum relates, and any four of them fix the fifth. -/

namespace Sys2Proof.Machine

/-! ### P9 -/

/-- P9 with the checksum received: Complete() (R191, R134). -/
theorem exec_verify_of_checksum_eq {s : State} (h : checksum s.humRaw s.tempRaw = s.chkRx) :
    exec .verify s = .next (s.pass Config.tPost).computeChecksum.complete :=
  congrArg Host.Outcome.next (State.judge_equal h)

/-- P9 with another checksum: the error entry (R191, R207). -/
theorem exec_verify_of_checksum_ne {s : State} (h : checksum s.humRaw s.tempRaw ≠ s.chkRx) :
    exec .verify s = .next ((s.pass Config.tPost).computeChecksum.raiseError .checksumMismatch) :=
  congrArg Host.Outcome.next (State.judge_unequal h)

/-- Settles O28: the sum decides between Complete() and the error entry, whose frames the passage of time does not enter. -/
theorem verifyDecides : Obligations.VerifyDecides := by
  intro s
  have hsum := checksum_toNat s.humRaw s.tempRaw
  have hiff := checksum_eq_iff s.humRaw s.tempRaw s.chkRx
  by_cases hk : checksum s.humRaw s.tempRaw = s.chkRx
  · exact ⟨_, exec_verify_of_checksum_eq hk, hsum, rfl, fun _ => State.completed_complete _,
      fun hne => absurd (hiff.1 hk) hne⟩
  · exact ⟨_, exec_verify_of_checksum_ne hk, hsum, rfl, fun heq => absurd (hiff.2 heq) hk,
      fun _ => State.raised_raiseError _ .checksumMismatch⟩

/-! ### The validator (R192) -/

/-- The validator compares the checksum with the byte given. -/
theorem checksumOk_iff (h t : Half) (c : Byte) : checksumOk h t c = true ↔ checksum h t = c :=
  beq_iff_eq

theorem checksumOk_eq_false_iff (h t : Half) (c : Byte) : checksumOk h t c = false ↔ checksum h t ≠ c :=
  beq_eq_false_iff_ne

/-- Settles O38: the validator and P9 make the same comparison, and P9's two ends have the codes 0 and 6. -/
theorem checksumValidator : Obligations.ChecksumValidator := by
  refine ⟨fun h t c => (checksumOk_iff h t c).trans (checksum_eq_iff h t c), fun s => ?_⟩
  simp only [checksumOk_iff, checksumOk_eq_false_iff]
  by_cases hk : checksum s.humRaw s.tempRaw = s.chkRx
  · exact ⟨_, exec_verify_of_checksum_eq hk, iff_of_true rfl hk,
      iff_of_false (show (0 : BitVec 3) ≠ 6 by decide) (not_not_intro hk)⟩
  · exact ⟨_, exec_verify_of_checksum_ne hk, iff_of_false (show (6 : BitVec 3) ≠ 0 by decide) hk, iff_of_true rfl hk⟩

/-! ### The bytes of a frame -/

/-- Byte k of a frame, from its low end: 0 is CHK_RX, 1 and 2 the bytes of TEMP_RAW, 3 and 4 those of HUM_RAW (R62, R63). -/
def frameByte (f : Frame) (k : Nat) : Byte := f.extractLsb' (8 * k) 8

/-- A slice of a slice of a frame is a slice of the frame. -/
theorem extractLsb'_extractLsb' (f : Frame) (first : Nat) {width start len : Nat} (h : start + len ≤ width) :
    (f.extractLsb' first width).extractLsb' start len = f.extractLsb' (first + start) len := by
  apply BitVec.eq_of_getLsbD_eq
  intro j hj
  have hlt : start + j < width := by omega
  simp [hj, hlt, Nat.add_assoc]

theorem frameChk_eq_frameByte (f : Frame) : frameChk f = frameByte f 0 := frameChk_eq_extract f

theorem lowByte_frameTemp (f : Frame) : lowByte (frameTemp f) = frameByte f 1 := by
  rw [frameTemp_eq_extract, lowByte, extractLsb'_extractLsb' f _ (by decide), frameByte]

theorem highByte_frameTemp (f : Frame) : highByte (frameTemp f) = frameByte f 2 := by
  rw [frameTemp_eq_extract, highByte, extractLsb'_extractLsb' f _ (by decide), frameByte]

theorem lowByte_frameHum (f : Frame) : lowByte (frameHum f) = frameByte f 3 := by
  rw [frameHum_eq_extract, lowByte, extractLsb'_extractLsb' f _ (by decide), frameByte]

theorem highByte_frameHum (f : Frame) : highByte (frameHum f) = frameByte f 4 := by
  rw [frameHum_eq_extract, highByte, extractLsb'_extractLsb' f _ (by decide), frameByte]

/-- R190 on bytes: the sum mod 256 is the sum of the bytes as machine words. -/
theorem checksum_eq_add (h t : Half) : checksum h t = highByte h + lowByte h + highByte t + lowByte t := by
  apply BitVec.eq_of_toNat_eq
  simp [checksum, byteSum, BitVec.toNat_add]

/-- R191 on a frame's bytes. -/
theorem checksumOk_frame_iff (f : Frame) :
    checksumOk (frameHum f) (frameTemp f) (frameChk f) = true ↔
      frameByte f 4 + frameByte f 3 + frameByte f 2 + frameByte f 1 = frameByte f 0 := by
  rw [checksumOk_iff, checksum_eq_add, highByte_frameHum, lowByte_frameHum, highByte_frameTemp, lowByte_frameTemp,
    frameChk_eq_frameByte]

/-- Of two frames that pass the checksum and agree in four of the bytes, the fifth agrees too: the sum cancels. -/
theorem frameByte_eq_of_checksumOk {f g : Frame} (hf : checksumOk (frameHum f) (frameTemp f) (frameChk f) = true)
    (hg : checksumOk (frameHum g) (frameTemp g) (frameChk g) = true) {k : Nat} (hk : k < 5)
    (hothers : ∀ j, j ≠ k → frameByte g j = frameByte f j) : frameByte g k = frameByte f k := by
  rw [checksumOk_frame_iff] at hf hg
  obtain rfl | hpos := Nat.eq_zero_or_pos k
  · rw [← hg, ← hf, hothers 1 (by decide), hothers 2 (by decide), hothers 3 (by decide), hothers 4 (by decide)]
  · have hsum := hg.trans ((hothers 0 hpos.ne).trans hf.symm)
    interval_cases k <;> simpa [hothers] using hsum

/-! ### One inverted bit -/

/-- Inverting bit a changes that bit alone. -/
theorem getLsbD_flip (f : Frame) {a : Nat} (ha : a < 41) (j : Nat) :
    (f ^^^ (1#41 <<< a)).getLsbD j = (f.getLsbD j ^^ decide (a = j)) := by
  simp [← BitVec.twoPow_eq, BitVec.getLsbD_twoPow, ha]

/-- A slice that leaves out bit a does not see it inverted. -/
theorem extractLsb'_flip_eq (f : Frame) {a start len : Nat} (ha : a < 41) (h : a < start ∨ start + len ≤ a) :
    (f ^^^ (1#41 <<< a)).extractLsb' start len = f.extractLsb' start len := by
  apply BitVec.eq_of_getLsbD_eq
  intro j hj
  have hne : a ≠ start + j := by omega
  rw [BitVec.getLsbD_extractLsb', BitVec.getLsbD_extractLsb', getLsbD_flip f ha, decide_eq_false hne, Bool.xor_false]

/-- A slice that holds bit a is not the same with the bit inverted. -/
theorem extractLsb'_flip_ne (f : Frame) {a start len : Nat} (ha : a < 41) (h : start ≤ a) (h' : a < start + len) :
    (f ^^^ (1#41 <<< a)).extractLsb' start len ≠ f.extractLsb' start len := by
  intro heq
  obtain ⟨j, rfl⟩ := Nat.exists_eq_add_of_le h
  have hbit := congrArg (BitVec.getLsbD · j) heq
  simp [getLsbD_flip f ha, show j < len by omega] at hbit

/-- Settles O39: BIT[i] is bit 40 - i of the frame (R25) and lies in byte (40 - i) / 8 alone; BIT[0] lies in no field. -/
theorem singleBitErrorDetected : Obligations.SingleBitErrorDetected := by
  intro f
  refine ⟨fun i hi hi' hf => ?_, ?_⟩
  · have hothers : ∀ j, j ≠ (40 - i) / 8 → frameByte (f ^^^ (1#41 <<< (40 - i))) j = frameByte f j :=
      fun j hj => extractLsb'_flip_eq f (by omega) (by omega)
    have hne : frameByte (f ^^^ (1#41 <<< (40 - i))) ((40 - i) / 8) ≠ frameByte f ((40 - i) / 8) :=
      extractLsb'_flip_ne f (by omega) (by omega) (by omega)
    rw [← Bool.not_eq_true]
    exact fun hg => hne (frameByte_eq_of_checksumOk hf hg (by omega) hothers)
  · simp only [frameHum_eq_extract, frameTemp_eq_extract, frameChk_eq_extract]
    exact ⟨extractLsb'_flip_eq f (by decide) (by decide), extractLsb'_flip_eq f (by decide) (by decide),
      extractLsb'_flip_eq f (by decide) (by decide)⟩

end Sys2Proof.Machine
end

section
/-! PROOFS. The end of a call (60_exceptions.md R201 to R208, R212; 10_state.md R38, R40): how a running call can end, the state at
that moment, and what the host reads before and after it. -/

namespace Sys2Proof.Machine

/-! ### How a call ends -/

/-- The step from s to t ends a call: POLL, IDX and the samples stand as they stood, and a polling phase has reached its bound
(R164) or P9 has given its verdict (R191). -/
structure EndsCall (s t : State) : Prop where
  ended : t.callOver
  idx : t.idx = s.idx
  poll : t.poll = s.poll
  sample : t.sample = s.sample
  cause : (∃ r ∈ pollingPhases, s.phase = r.code ∧ s.poll.toNat = r.bound ∧ t.outcome = r.error) ∨
    (s.phase = Phase.verify ∧ (t.outcome = 0 ∨ (t.outcome = 6 ∧ t.chkCalc ≠ t.chkRx)))

/-- P5B's loop control leaves the call running (R170). -/
@[simp] theorem State.nextSample_busy (s : State) : s.nextSample.busy = s.busy := by
  unfold State.nextSample
  dsimp only
  split <;> rfl

/-- Of the phases' moves only a poll at its bound and P9's verdict end a call (R207, R134). -/
theorem PhaseMove.endsCall {s t : State} (hm : PhaseMove s t) (hb : s.busy = true) (ht : t.busy = false) : EndsCall s t := by
  have ended := (hm.busy_or_over hb).resolve_left (Bool.eq_false_iff.1 ht)
  cases hm with
  | pollFails hr hk hp ha hv hn => exact ⟨ended, rfl, rfl, rfl, .inl ⟨_, hr, hp, hn, hk⟩⟩
  | verifies hp =>
    by_cases hc : (s.pass Config.tPost).computeChecksum.chkCalc = (s.pass Config.tPost).computeChecksum.chkRx
    · rw [State.judge_equal hc] at ended ⊢
      exact ⟨ended, rfl, rfl, rfl, .inr ⟨hp, .inl rfl⟩⟩
    · rw [State.judge_unequal hc] at ended ⊢
      exact ⟨ended, rfl, rfl, rfl, .inr ⟨hp, .inr ⟨rfl, hc⟩⟩⟩
  | stores hp ha hv hi =>
    rw [State.nextSample_busy] at ht
    exact nomatch hb.symm.trans ht
  | _ => exact nomatch hb.symm.trans ht

/-- Reset apart, no other step ends a call (R132, R148). -/
theorem Inv.endsCall {s t : State} (h : Inv s) (hreset : s.noReset) (ht : step s = .next t) (hb : s.busy = true)
    (hbt : t.busy = false) : EndsCall s t := by
  rcases step_cases h.coherent.agents ht with hown | rfl | ⟨r, rfl⟩ | ⟨-, hidle, -⟩ | ⟨hr, -⟩
  · cases hw : s.popWord with
    | none =>
      obtain ⟨ended, idx, poll, sample, cause⟩ := (PhaseMove.of_ownStep (s := s.consumed) hw hown).endsCall hb hbt
      exact ⟨ended, idx, poll, sample, cause⟩
    | some w =>
      rw [h.consumed.ownStep_performs hw] at hown
      cases hown
      obtain ⟨-, -, -, -, -, hbusy, -⟩ := s.consumed.performed_sameRegisters w
      exact nomatch hb.symm.trans (hbusy.symm.trans hbt)
  · exact nomatch hb.symm.trans hbt
  · exact nomatch hb.symm.trans hbt
  · exact nomatch hb.symm.trans hidle
  · exact absurd hreset hr

/-! ### The samples of a running call (R24, R174) -/

/-- Below IDX a sample is a poll count (R173). -/
theorem Inv.sample_taken_range {s : State} (h : Inv s) {i : Nat} (hi : i < s.idx.toNat) :
    1 ≤ (Memory.read s.sample i).toNat ∧ (Memory.read s.sample i).toNat ≤ 51 := by
  have hne : (Memory.read s.sample i).toNat ≠ 0 := fun h0 => h.spec.sample_taken i hi (BitVec.eq_of_toNat_eq h0)
  exact ⟨Nat.one_le_iff_ne_zero.2 hne, h.spec.sample_range i⟩

/-- Before P5 nothing is sampled (R131). -/
theorem Inv.nothing_sampled {s : State} (h : Inv s) (hp : s.phaseIn 1 4) : s.idx = 0 ∧ ∀ i, Memory.read s.sample i = 0 := by
  have hidx := h.coherent.idx_before hp
  exact ⟨BitVec.eq_of_toNat_eq hidx,
    fun i => h.coherent.sample_ahead ⟨hp.1, hp.2.trans (by decide)⟩ i (hidx.trans_le i.zero_le)⟩

/-! ### The state at each error (R212) -/

/-- Each row of R164 has an error of its own, which is neither Success nor P9's. -/
theorem PollingPhase.error_spec {r : PollingPhase} (hr : r ∈ pollingPhases) :
    r.error ≠ 0 ∧ r.error ≠ 6 ∧ ∀ q ∈ pollingPhases, q.error = r.error → q = r := by
  revert r
  decide

section ends
variable {s t : State} {r : PollingPhase} (he : EndsCall s t)
include he

/-- The error of a polling phase comes from that phase, at its bound (R201 to R205). -/
theorem EndsCall.at_bound (hr : r ∈ pollingPhases) (ho : t.outcome = r.error) :
    s.phase = r.code ∧ t.poll.toNat = r.bound := by
  obtain ⟨hsuccess, hmismatch, hown⟩ := PollingPhase.error_spec hr
  rcases he.cause with ⟨q, hq, hp, hn, hqo⟩ | ⟨-, h0 | ⟨h6, -⟩⟩
  · obtain rfl := hown q hq (hqo.symm.trans ho)
    exact ⟨hp, by rw [he.poll, hn]⟩
  · exact absurd (ho.symm.trans h0) hsuccess
  · exact absurd (ho.symm.trans h6) hmismatch

/-- An error of P1, P3 or P4: IDX and every sample are 0. -/
theorem EndsCall.before_sampling (h : Inv s) (hr : r ∈ pollingPhases) (hcode : 1 ≤ r.code.toNat ∧ r.code.toNat ≤ 4)
    (ho : t.outcome = r.error) :
    s.phase = r.code ∧ t.poll.toNat = r.bound ∧ t.idx = 0 ∧ ∀ i, Memory.read t.sample i = 0 := by
  obtain ⟨hp, hn⟩ := he.at_bound hr ho
  rw [he.idx, he.sample]
  exact ⟨hp, hn, h.nothing_sampled (State.phaseIn_of hp hcode)⟩

/-- An error of P5A or P5B: the samples below IDX are taken, the others 0. -/
theorem EndsCall.while_sampling (h : Inv s) (hr : r ∈ pollingPhases) (hcode : 5 ≤ r.code.toNat ∧ r.code.toNat ≤ 6)
    (ho : t.outcome = r.error) :
    s.phase = r.code ∧ t.poll.toNat = r.bound ∧ t.idx = s.idx ∧ t.idx.toNat ≤ 40 ∧
      ∀ i, (i < t.idx.toNat → 1 ≤ (Memory.read t.sample i).toNat ∧ (Memory.read t.sample i).toNat ≤ 51) ∧
        (t.idx.toNat ≤ i → Memory.read t.sample i = 0) := by
  obtain ⟨hp, hn⟩ := he.at_bound hr ho
  rw [he.idx, he.sample]
  exact ⟨hp, hn, rfl, h.coherent.idx_during (State.phaseIn_of hp hcode),
    fun i => ⟨h.sample_taken_range,
      h.coherent.sample_ahead (State.phaseIn_of hp ⟨le_trans (by decide) hcode.1, hcode.2⟩) i⟩⟩

/-- ChecksumMismatch (R206): P9's verdict on 41 samples. -/
theorem EndsCall.at_mismatch (h : Inv s) (ho : t.outcome = 6) :
    s.phase = 10 ∧ t.idx.toNat = 41 ∧ t.chkCalc ≠ t.chkRx ∧
      ∀ i, i ≤ 40 → 1 ≤ (Memory.read t.sample i).toNat ∧ (Memory.read t.sample i).toNat ≤ 51 := by
  rcases he.cause with ⟨q, hq, -, -, hqo⟩ | ⟨hp, h0 | ⟨-, hne⟩⟩
  · exact absurd (hqo.symm.trans ho) (PollingPhase.error_spec hq).2.1
  · exact absurd (ho.symm.trans h0) (by decide)
  · have hidx := h.coherent.idx_after (State.phaseIn_of hp (by decide))
    rw [he.idx, he.sample]
    exact ⟨hp, hidx, hne, fun i hi => h.sample_taken_range (hidx ▸ Nat.lt_succ_of_le hi)⟩

end ends

/-- Settles O46: a call ends idle under the invariant, with the results cleared unless it succeeded; the outcome names the phase that
ended it, and with the phase the invariant gives IDX and the samples. -/
theorem stateAtEachError : Obligations.StateAtEachError := by
  intro s t h hreset ht hb hbt
  have he := h.endsCall hreset ht hb hbt
  have hinv := h.after_step ht
  have hidle := hinv.phase_of_idle hbt
  obtain ⟨-, hdone, -⟩ := he.ended
  exact ⟨⟨hdone, hidle, (hinv.placed_idle hidle).2, hinv.spec.line_out⟩, hinv.spec.error_clears hdone,
    he.before_sampling (r := .p1) h (by decide) (by decide), he.before_sampling (r := .p3) h (by decide) (by decide),
    he.before_sampling (r := .p4) h (by decide) (by decide), he.while_sampling (r := .p5a) h (by decide) (by decide),
    he.while_sampling (r := .p5b) h (by decide) (by decide), he.at_mismatch h⟩

/-! ### What the host reads (R208) -/

/-- Behind the closed gate the result registers read 0 (R38). -/
theorem State.hostValue_of_gate_closed {s : State} (h : ¬ s.gateOpen) :
    s.hostValue .humX10 = 0 ∧ s.hostValue .tempX10 = 0 :=
  ⟨if_neg (mt s.gate_iff.1 h), if_neg (mt s.gate_iff.1 h)⟩

/-- While a call runs there is no outcome (R43). -/
theorem Inv.no_outcome_of_busy {s : State} (h : Inv s) (hb : s.busy = true) : s.done = false ∧ s.outcome = 7 := by
  have hd : ¬ s.done = true := fun hd => h.spec.not_both ⟨hb, hd⟩
  exact ⟨Bool.eq_false_iff.2 hd, not_not.1 (mt h.spec.done_iff.2 hd)⟩

/-- Settles O52: while a call runs DONE is 0, and after an error OUTCOME is not 0, so the gate is closed either way. -/
theorem hostSeesNoPartialResult : Obligations.HostSeesNoPartialResult := by
  refine fun s h => ⟨fun hb => ?_, fun hd ho => ?_⟩
  · obtain ⟨hd, ho⟩ := h.no_outcome_of_busy hb
    refine ⟨BitVec.eq_of_toNat_eq ?_, State.hostValue_of_gate_closed (by simp [State.gateOpen, hd])⟩
    rw [State.statusByte_toNat]
    simp [hb, hd, ho]
  · have hb : s.busy = false := Bool.eq_false_iff.2 fun hb => h.spec.not_both ⟨hb, hd⟩
    refine ⟨?_, State.hostValue_of_gate_closed fun hg => ho hg.2⟩
    rw [State.statusByte_toNat, if_neg fun hneg => ho hneg.2.1, if_pos hd, if_neg (Bool.eq_false_iff.1 hb)]

end Sys2Proof.Machine
end

section
/-! PROOFS. Reset at any moment (70_reset_and_hazards.md R230, R231), and how long one poll lasts (R241). -/

namespace Sys2Proof.Machine

/-! ### Reset -/

/-- A reset is taken whatever is in flight (R231). -/
theorem step_of_reset {s : State} {rest : List Event} (h : s.inputs = .reset :: rest) :
    step s = .next (State.applyReset { s with inputs := rest }) :=
  step_of_event h

/-- Settles O10: the step is applyReset, each field of which is the reset table's or, of the outside world, the state's own. -/
theorem stepReset : Obligations.StepReset := by
  intro s rest hi
  exact ⟨_, step_of_reset hi, rfl, rfl, rfl, fun _ => rfl, rfl, rfl, rfl, rfl, rfl, rfl, rfl, rfl, rfl, rfl, rfl, rfl, rfl, rfl,
    rfl, rfl, rfl, rfl, rfl, rfl⟩

/-! ### The length of a poll -/

theorem State.sameRegisters_trans {s t u : State} (h : s.sameRegisters t) (h' : t.sameRegisters u) : s.sameRegisters u := by
  simp only [State.sameRegisters, State.sameSequencer, State.sameSamples, State.sameDecoder, State.sameResults,
    State.sameStatus] at *
  simp [h, h']

/-- After the wait of a poll: LINE_READ is in flight (R147). -/
def State.awaitingAnswer (s : State) : State := (s.performed 0x502).issue Pop.lineRead .answered

/-- The wait of a poll is in flight only at its place in a polling phase, so the line is read next (R147, R21). -/
theorem Inv.pollReads_of_tick {s : State} (h : Inv s) (hw : s.popWord = some 0x502) :
    PhaseMove (s.performed 0x502) s.awaitingAnswer := by
  cases h.flight hw with
  | wait hr _ hp hm => exact .pollReads hr ((s.performed_phase _).trans hp) ((s.performed_micro _).trans hm)
  | _ => contradiction

/-- The wait of a poll takes 2 microseconds at least and at most T_JIT more; presenting LINE_READ takes no time (R145, R7). -/
theorem State.clock_awaitingAnswer (s : State) :
    s.clock + 2000 ≤ s.awaitingAnswer.clock ∧ s.awaitingAnswer.clock ≤ s.clock + 2000 + Config.tJit := by
  obtain ⟨-, -, -, -, hleast, hmost⟩ := State.passWait_frame { s with popWord := none } 2000
  exact ⟨hleast, hmost⟩

/-- LINE_READ takes at most T_OVH (R241, D13). -/
theorem State.clock_performed_read (s : State) :
    s.clock ≤ (s.performed 0x400).clock ∧ (s.performed 0x400).clock ≤ s.clock + Config.tOvh :=
  ⟨Nat.le_add_right _ _, Nat.add_le_add_left (mod_succ_le _ _) _⟩

/-- Settles O59: the wait is performed, LINE_READ presented and performed; the wait takes the 2 microseconds and at most T_JIT,
the read at most T_OVH. -/
theorem pollLasts : Obligations.PollLasts := by
  intro s h hi hw
  have hinputs : (s.performed 0x502).inputs = [] := (s.performed_inputs _).trans hi
  have steps1 := steps_then (steps_zero s) (step_of_word hi hw (by decide))
  have steps2 := steps_then steps1 ((h.pollReads_of_tick hw).step_eq hinputs (s.performed_popWord _))
  have steps3 := steps_then steps2 (step_of_word (w := 0x400) hinputs rfl (by decide))
  have waited : s.sameRegisters s.awaitingAnswer := s.performed_sameRegisters 0x502
  have answered := State.sameRegisters_trans waited (s.awaitingAnswer.performed_sameRegisters 0x400)
  obtain ⟨hleast, hwait⟩ := s.clock_awaitingAnswer
  obtain ⟨hgrows, hread⟩ := s.awaitingAnswer.clock_performed_read
  exact ⟨_, steps3, State.performed_micro _ _, State.performed_popWord _ _, answered, hleast.trans hgrows,
    hread.trans (Nat.add_le_add_right hwait _)⟩

end Sys2Proof.Machine
end
